-- ==== Sys2Proof/Word.lean ====
section
/-! DEFINITION. The word types of the integer unit (R4, R5): a 32-bit word, an 8-bit byte, and the
5-bit number of a visible register. -/

namespace Sys2Proof

/-- A 32-bit word: register, address or instruction (R4: XLEN = ALEN = ILEN = 32). -/
abbrev Word := BitVec 32

/-- A byte of memory (R4: "byte 8 bits"). -/
abbrev Byte := BitVec 8

/-- The number of a visible register, `%r0` to `%r31` (R10: every register field is 5 bits). -/
abbrev Reg := BitVec 5

end Sys2Proof
end

