-- ==== Sys2Proof/Config.lean ====
section
/-! DEFINITION. What an implementation fixes: the parameters of rule R4 that a model takes as arguments,
and the one value the spec leaves open with no default, `DIV_OVERFLOW` (R123). The settings the spec
chooses for the parameters stand in `Machine/Settings.lean`. -/

namespace Sys2Proof

/-- `BYTE_ORDER` (R4, R42). -/
inductive ByteOrder where
  | big
  | little
  deriving DecidableEq, Repr

/-- `BRANCH_BASE` (R4, D36): what a relative displacement is added to. -/
inductive BranchBase where
  | npc
  | pc
  deriving DecidableEq, Repr

/-- `JMP_LINK` (R4, D35): what `jmp` writes to `rd`. -/
inductive JmpLink where
  | dir
  | pc
  deriving DecidableEq, Repr

/-- The kind of an access, the last argument of `TRANSLATE` (R49). -/
inductive AccessKind where
  | fetch
  | load
  | store
  deriving DecidableEq, Repr

/-- The parameters of R4 that select among behaviours. A shared operation that depends on one takes a
`Params`, so that a claim can quantify over the settings; the instructions run at
`Sys2Proof.Machine.settings`. -/
structure Params where
  /-- `BYTE_ORDER` (R42). -/
  byteOrder : ByteOrder
  /-- The extent of `MEM` (R48, R288): whether a byte address exists. -/
  present : Word → Bool
  /-- `BRANCH_BASE` (R170, R205). -/
  branchBase : BranchBase
  /-- `JMP_LINK` (R200). -/
  jmpLink : JmpLink
  /-- `BA_A_ANNULS` (R171). -/
  baAnnuls : Bool
  /-- `WIM_CHECK` (R218, R287). -/
  wimCheck : Bool
  /-- `PRIV_CHECK` (R270, R286). -/
  privCheck : Bool
  /-- `TRANSLATE(BASE, LIMITE, S, dir, kind)` (R49): an address, or none for a fault. Which exception that
  fault is, the spec leaves open (log entry 24). -/
  translate : Word → Word → Bool → Word → AccessKind → Option Word

/-- What a division whose quotient does not fit writes (R123): `x[rd]`, `Y` and, for the `cc` forms,
the four condition codes. -/
structure DivOverflow where
  quot : Word
  rem : Word
  n : Bool
  z : Bool
  v : Bool
  c : Bool
  deriving DecidableEq, Repr, Inhabited

/-- FREE VALUE (R123, D11, log entry 1). `DIV_OVERFLOW(signed?, Y, a, b)`: "the spec gives it no value".
It has no body, so nothing can be proved of it and every claim holds whatever it is. -/
opaque Config.divOverflow (signed : Bool) (y a b : Word) : DivOverflow

end Sys2Proof
end

