-- ==== Sys2Proof/Machine/Bits.lean ====
section
/-! DEFINITION. The fields of an instruction word (R7, R61 to R70), the extensions (R7, R72, R73) and the
assembly of bytes into wider values (R42). -/

namespace Sys2Proof

/-! ## The named fields of an instruction word (R7) -/

/-- `op = bits[31:30]` -/
def fieldOp (w : Word) : BitVec 2 := w.extractLsb' 30 2

/-- `rd = bits[29:25]` -/
def fieldRd (w : Word) : Reg := w.extractLsb' 25 5

/-- `op2 = bits[24:22]` -/
def fieldOp2 (w : Word) : BitVec 3 := w.extractLsb' 22 3

/-- `op3 = bits[24:19]` -/
def fieldOp3 (w : Word) : BitVec 6 := w.extractLsb' 19 6

/-- `ro1 = bits[18:14]` -/
def fieldRo1 (w : Word) : Reg := w.extractLsb' 14 5

/-- `i = bits[13]` -/
def fieldI (w : Word) : BitVec 1 := w.extractLsb' 13 1

/-- Bits 12:5, written "cero" in the register form (R64). -/
def fieldCero8 (w : Word) : BitVec 8 := w.extractLsb' 5 8

/-- Bits 13:0, written "cero" in a state-register read (R68). -/
def fieldCero14 (w : Word) : BitVec 14 := w.extractLsb' 0 14

/-- `ro2 = bits[4:0]`, also `const5` of the shifts (R66) -/
def fieldRo2 (w : Word) : Reg := w.extractLsb' 0 5

/-- `simm13 = bits[12:0]` -/
def fieldSimm13 (w : Word) : BitVec 13 := w.extractLsb' 0 13

/-- Bit 29: `a` of a relative branch (R63), `r` of a trap instruction (R67). -/
def fieldA (w : Word) : BitVec 1 := w.extractLsb' 29 1

/-- `cond = bits[28:25]` -/
def fieldCond (w : Word) : BitVec 4 := w.extractLsb' 25 4

/-- `imm22 = bits[21:0]`: `const22` of `sethi`, `disp22` of the branches -/
def fieldImm22 (w : Word) : BitVec 22 := w.extractLsb' 0 22

/-- `disp30 = bits[29:0]` -/
def fieldDisp30 (w : Word) : BitVec 30 := w.extractLsb' 0 30

/-! ## Extensions and displacements (R7, R72, R73) -/

/-- `sext_32(v)` (R7) -/
def sext32 {n : Nat} (v : BitVec n) : Word := v.signExtend 32

/-- `zext_32(v)` (R7) -/
def zext32 {n : Nat} (v : BitVec n) : Word := v.setWidth 32

/-- The byte offset of `disp22` (R73): `sext_32(disp22 :: 00)`. -/
def offset22 (disp22 : BitVec 22) : Word := sext32 (disp22 ++ 0#2)

/-- The byte offset of `disp30` (R73): `disp30 :: 00`. -/
def offset30 (disp30 : BitVec 30) : Word := disp30 ++ 0#2

/-- `dir[1:0] = 00`: the alignment of a word (R43), and of a `jmp` or `rett` target (R200, R203). -/
def isWordAligned (a : Word) : Bool := a.extractLsb' 0 2 == 0#2

/-- `dir[0] = 0`: the alignment of a half word (R43). -/
def isHalfAligned (a : Word) : Bool := a.extractLsb' 0 1 == 0#1

/-! ## Byte order (R42) -/

/-- A half word from the bytes at its lower and its higher address. -/
def halfOfBytes : ByteOrder → Byte → Byte → BitVec 16
  | .big, b0, b1 => b0 ++ b1
  | .little, b0, b1 => b1 ++ b0

/-- A word from its four bytes, the byte at the lowest address first. -/
def wordOfBytes : ByteOrder → Byte → Byte → Byte → Byte → Word
  | .big, b0, b1, b2, b3 => b0 ++ b1 ++ b2 ++ b3
  | .little, b0, b1, b2, b3 => b3 ++ b2 ++ b1 ++ b0

/-- The bytes of a half word, the one at the lowest address first. -/
def bytesOfHalf : ByteOrder → BitVec 16 → List Byte
  | .big, v => [v.extractLsb' 8 8, v.extractLsb' 0 8]
  | .little, v => [v.extractLsb' 0 8, v.extractLsb' 8 8]

/-- The bytes of a word, the one at the lowest address first. -/
def bytesOfWord : ByteOrder → Word → List Byte
  | .big, v => [v.extractLsb' 24 8, v.extractLsb' 16 8, v.extractLsb' 8 8, v.extractLsb' 0 8]
  | .little, v => [v.extractLsb' 0 8, v.extractLsb' 8 8, v.extractLsb' 16 8, v.extractLsb' 24 8]

end Sys2Proof
end

