-- ==== Sys2Proof/Machine/Settings.lean ====
section
/-! DEFINITION. The settings the spec chooses for the parameters of R4. -/

namespace Sys2Proof.Machine

/-- The spec's settings (R4): big-endian (D1), all 2^32 bytes present (D32), displacements relative to
nPC (D36), `jmp` writes `dir` (D35), `ba,a` does not annul (D16), WIM not checked (D23), nothing
privileged (D25), addresses not translated (D24). Log entry 2. -/
def settings : Params where
  byteOrder := .big
  present := fun _ => true
  branchBase := .npc
  jmpLink := .dir
  baAnnuls := false
  wimCheck := false
  privCheck := false
  translate := fun _ _ _ dir _ => some dir

end Sys2Proof.Machine
end

