-- ==== Sys2Proof/Syntax.lean ====
section
/-! DEFINITION. The instructions, one constructor for each of the 86 instructions of
`spec/opcode_table.json`. A row pair of the table (`"form"` `reg` and `imm`) is one constructor with an
operand of either form. -/

namespace Sys2Proof

/-- The second source operand of a format 3 instruction (R64, R65, R72): the register `ro2` (`i` = 0) or
the 13 bits of the immediate (`i` = 1); each instruction says how it extends them. -/
inductive Operand2 where
  | reg (ro2 : Reg)
  | imm (siconst13 : BitVec 13)
  deriving DecidableEq, Repr

/-- The count operand of a shift (R64, R66): the register `ro2`, or the 5-bit constant `const5`. -/
inductive ShiftCount where
  | reg (ro2 : Reg)
  | imm (const5 : BitVec 5)
  deriving DecidableEq, Repr

/-- The instruction set (R1). The register operands stand in the order `rd`, `ro1`, operand 2, whatever
order the assembler syntax writes them in (R87). -/
inductive Instr where
  /-- `stb` (R98) -/
  | stb (rd ro1 : Reg) (o : Operand2)
  /-- `sth` (R99) -/
  | sth (rd ro1 : Reg) (o : Operand2)
  /-- `st` (R97) -/
  | st (rd ro1 : Reg) (o : Operand2)
  /-- `ldsb` (R95) -/
  | ldsb (rd ro1 : Reg) (o : Operand2)
  /-- `ldsh` (R96) -/
  | ldsh (rd ro1 : Reg) (o : Operand2)
  /-- `ldub` (R93) -/
  | ldub (rd ro1 : Reg) (o : Operand2)
  /-- `lduh` (R94) -/
  | lduh (rd ro1 : Reg) (o : Operand2)
  /-- `ld` (R92) -/
  | ld (rd ro1 : Reg) (o : Operand2)
  /-- `sethi` (R110) -/
  | sethi (rd : Reg) (const22 : BitVec 22)
  /-- `add` (R126) -/
  | add (rd ro1 : Reg) (o : Operand2)
  /-- `addcc` (R127) -/
  | addcc (rd ro1 : Reg) (o : Operand2)
  /-- `and` (R128) -/
  | and (rd ro1 : Reg) (o : Operand2)
  /-- `andcc` (R129) -/
  | andcc (rd ro1 : Reg) (o : Operand2)
  /-- `andn` (R130) -/
  | andn (rd ro1 : Reg) (o : Operand2)
  /-- `andncc` (R131) -/
  | andncc (rd ro1 : Reg) (o : Operand2)
  /-- `or` (R132) -/
  | or (rd ro1 : Reg) (o : Operand2)
  /-- `orcc` (R133) -/
  | orcc (rd ro1 : Reg) (o : Operand2)
  /-- `orn` (R134) -/
  | orn (rd ro1 : Reg) (o : Operand2)
  /-- `orncc` (R135) -/
  | orncc (rd ro1 : Reg) (o : Operand2)
  /-- `udiv` (R136) -/
  | udiv (rd ro1 : Reg) (o : Operand2)
  /-- `udivcc` (R137) -/
  | udivcc (rd ro1 : Reg) (o : Operand2)
  /-- `umul` (R138) -/
  | umul (rd ro1 : Reg) (o : Operand2)
  /-- `umulcc` (R139) -/
  | umulcc (rd ro1 : Reg) (o : Operand2)
  /-- `sdiv` (R140) -/
  | sdiv (rd ro1 : Reg) (o : Operand2)
  /-- `sdivcc` (R141) -/
  | sdivcc (rd ro1 : Reg) (o : Operand2)
  /-- `smul` (R142) -/
  | smul (rd ro1 : Reg) (o : Operand2)
  /-- `smulcc` (R143) -/
  | smulcc (rd ro1 : Reg) (o : Operand2)
  /-- `sub` (R144) -/
  | sub (rd ro1 : Reg) (o : Operand2)
  /-- `subcc` (R145) -/
  | subcc (rd ro1 : Reg) (o : Operand2)
  /-- `xor` (R146) -/
  | xor (rd ro1 : Reg) (o : Operand2)
  /-- `xorcc` (R147) -/
  | xorcc (rd ro1 : Reg) (o : Operand2)
  /-- `xnor` (R148) -/
  | xnor (rd ro1 : Reg) (o : Operand2)
  /-- `xnorcc` (R149) -/
  | xnorcc (rd ro1 : Reg) (o : Operand2)
  /-- `sll` (R161) -/
  | sll (rd ro1 : Reg) (o : ShiftCount)
  /-- `sra` (R162) -/
  | sra (rd ro1 : Reg) (o : ShiftCount)
  /-- `srl` (R163) -/
  | srl (rd ro1 : Reg) (o : ShiftCount)
  /-- `bn`, with the annul bit `a` (R174) -/
  | bn (a : Bool) (disp22 : BitVec 22)
  /-- `ba`, with the annul bit `a` (R175) -/
  | ba (a : Bool) (disp22 : BitVec 22)
  /-- `be`, with the annul bit `a` (R176) -/
  | be (a : Bool) (disp22 : BitVec 22)
  /-- `bne`, with the annul bit `a` (R177) -/
  | bne (a : Bool) (disp22 : BitVec 22)
  /-- `ble`, with the annul bit `a` (R178) -/
  | ble (a : Bool) (disp22 : BitVec 22)
  /-- `bg`, with the annul bit `a` (R179) -/
  | bg (a : Bool) (disp22 : BitVec 22)
  /-- `bl`, with the annul bit `a` (R180) -/
  | bl (a : Bool) (disp22 : BitVec 22)
  /-- `bge`, with the annul bit `a` (R181) -/
  | bge (a : Bool) (disp22 : BitVec 22)
  /-- `bleu`, with the annul bit `a` (R182) -/
  | bleu (a : Bool) (disp22 : BitVec 22)
  /-- `bgu`, with the annul bit `a` (R183) -/
  | bgu (a : Bool) (disp22 : BitVec 22)
  /-- `bcs`, with the annul bit `a` (R184) -/
  | bcs (a : Bool) (disp22 : BitVec 22)
  /-- `bcc`, with the annul bit `a` (R185) -/
  | bcc (a : Bool) (disp22 : BitVec 22)
  /-- `bneg`, with the annul bit `a` (R186) -/
  | bneg (a : Bool) (disp22 : BitVec 22)
  /-- `bpos`, with the annul bit `a` (R187) -/
  | bpos (a : Bool) (disp22 : BitVec 22)
  /-- `bvs`, with the annul bit `a` (R188) -/
  | bvs (a : Bool) (disp22 : BitVec 22)
  /-- `bvc`, with the annul bit `a` (R189) -/
  | bvc (a : Bool) (disp22 : BitVec 22)
  /-- `jmp` (R200) -/
  | jmp (rd ro1 : Reg) (o : Operand2)
  /-- `rett` (R203): the `rd` field is fixed at zero (R70) -/
  | rett (ro1 : Reg) (o : Operand2)
  /-- `call` (R205) -/
  | call (disp30 : BitVec 30)
  /-- `restore` (R216) -/
  | restore (rd ro1 : Reg) (o : Operand2)
  /-- `save` (R217) -/
  | save (rd ro1 : Reg) (o : Operand2)
  /-- `tn` (R228) -/
  | tn (ro1 : Reg) (o : Operand2)
  /-- `ta` (R229) -/
  | ta (ro1 : Reg) (o : Operand2)
  /-- `te` (R230) -/
  | te (ro1 : Reg) (o : Operand2)
  /-- `tne` (R231) -/
  | tne (ro1 : Reg) (o : Operand2)
  /-- `tle` (R232) -/
  | tle (ro1 : Reg) (o : Operand2)
  /-- `tg` (R233) -/
  | tg (ro1 : Reg) (o : Operand2)
  /-- `tl` (R234) -/
  | tl (ro1 : Reg) (o : Operand2)
  /-- `tge` (R235) -/
  | tge (ro1 : Reg) (o : Operand2)
  /-- `tleu` (R236) -/
  | tleu (ro1 : Reg) (o : Operand2)
  /-- `tgu` (R237) -/
  | tgu (ro1 : Reg) (o : Operand2)
  /-- `tcs` (R238) -/
  | tcs (ro1 : Reg) (o : Operand2)
  /-- `tcc` (R239) -/
  | tcc (ro1 : Reg) (o : Operand2)
  /-- `tneg` (R240) -/
  | tneg (ro1 : Reg) (o : Operand2)
  /-- `tpos` (R241) -/
  | tpos (ro1 : Reg) (o : Operand2)
  /-- `tvs` (R242) -/
  | tvs (ro1 : Reg) (o : Operand2)
  /-- `tvc` (R243) -/
  | tvc (ro1 : Reg) (o : Operand2)
  /-- `nop` (R250) -/
  | nop
  /-- `rd %y` (R254) -/
  | rdY (rd : Reg)
  /-- `rd %psr` (R255) -/
  | rdPsr (rd : Reg)
  /-- `rd %wim` (R256) -/
  | rdWim (rd : Reg)
  /-- `rd %tbr` (R257) -/
  | rdTbr (rd : Reg)
  /-- `rd %base` (R258) -/
  | rdBase (rd : Reg)
  /-- `rd %limite` (R259) -/
  | rdLimite (rd : Reg)
  /-- `wr %y` (R262) -/
  | wrY (ro1 : Reg) (o : Operand2)
  /-- `wr %psr` (R263) -/
  | wrPsr (ro1 : Reg) (o : Operand2)
  /-- `wr %wim` (R264) -/
  | wrWim (ro1 : Reg) (o : Operand2)
  /-- `wr %tbr` (R265) -/
  | wrTbr (ro1 : Reg) (o : Operand2)
  /-- `wr %base` (R266) -/
  | wrBase (ro1 : Reg) (o : Operand2)
  /-- `wr %limite` (R267) -/
  | wrLimite (ro1 : Reg) (o : Operand2)
  deriving DecidableEq, Repr

end Sys2Proof
end

