-- ==== Sys2Proof/WellFormed.lean ====
section
/-! DEFINITION. Which terms of `Instr` are instructions of the machine. Every operand field has the
width of its encoding, so the only ill-formed term is the one whose word is another instruction's. -/

namespace Sys2Proof

/-- A well-formed instruction. The term `sethi 0, %r0` is not: its word `0x01000000` is `nop` (R79,
R251), which has a constructor of its own. -/
def WellFormed (i : Instr) : Bool :=
  match i with
  | .sethi rd const22 => !(rd == 0#5 && const22 == 0#22)
  | .stb _ _ _ | .sth _ _ _ | .st _ _ _ | .ldsb _ _ _ | .ldsh _ _ _ | .ldub _ _ _ | .lduh _ _ _
  | .ld _ _ _ | .add _ _ _ | .addcc _ _ _ | .and _ _ _ | .andcc _ _ _ | .andn _ _ _ | .andncc _ _ _
  | .or _ _ _ | .orcc _ _ _ | .orn _ _ _ | .orncc _ _ _ | .udiv _ _ _ | .udivcc _ _ _ | .umul _ _ _
  | .umulcc _ _ _ | .sdiv _ _ _ | .sdivcc _ _ _ | .smul _ _ _ | .smulcc _ _ _ | .sub _ _ _
  | .subcc _ _ _ | .xor _ _ _ | .xorcc _ _ _ | .xnor _ _ _ | .xnorcc _ _ _ | .sll _ _ _
  | .sra _ _ _ | .srl _ _ _ | .jmp _ _ _ | .restore _ _ _ | .save _ _ _ => true
  | .bn _ _ | .ba _ _ | .be _ _ | .bne _ _ | .ble _ _ | .bg _ _ | .bl _ _ | .bge _ _ | .bleu _ _
  | .bgu _ _ | .bcs _ _ | .bcc _ _ | .bneg _ _ | .bpos _ _ | .bvs _ _ | .bvc _ _ => true
  | .tn _ _ | .ta _ _ | .te _ _ | .tne _ _ | .tle _ _ | .tg _ _ | .tl _ _ | .tge _ _ | .tleu _ _
  | .tgu _ _ | .tcs _ _ | .tcc _ _ | .tneg _ _ | .tpos _ _ | .tvs _ _ | .tvc _ _ | .rett _ _
  | .wrY _ _ | .wrPsr _ _ | .wrWim _ _ | .wrTbr _ _ | .wrBase _ _ | .wrLimite _ _ => true
  | .call _ => true
  | .nop => true
  | .rdY _ | .rdPsr _ | .rdWim _ | .rdTbr _ | .rdBase _ | .rdLimite _ => true

end Sys2Proof
end

