-- ==== Sys2Proof/Decode.lean ====
section
/-! DEFINITION. The decoder (R60 to R85), total on every word, which rejects by name; then the encoder,
from the same format tables; then the entry point the host calls. -/

namespace Sys2Proof

/-- Why a word is not an instruction. Every one of them is the exception `IllegalInstruction` (R282). -/
inductive Reject where
  /-- `op` = `00` with an unassigned `op2` (R80). -/
  | unassignedOp2
  /-- `op` = `10` or `11` with an unassigned `op3` (R80). -/
  | unassignedOp3
  /-- A field written "cero" is not zero (R81). -/
  | ceroNotZero
  /-- A reserved field is not zero (R82). -/
  | reservedNotZero
  /-- A state-register selector that the tables do not list (R260, R268). -/
  | unlistedSelector
  /-- Fewer than four bytes. -/
  | tooShort
  deriving DecidableEq, Repr

/-- What the decoder answers. -/
abbrev Decoded := Except Reject Instr

/-! ## Decoding -/

/-- Operand 2 of a format 3 word (R64, R65, R81). -/
def decodeOperand2 (w : Word) : Except Reject Operand2 :=
  if fieldI w = 1#1 then .ok (.imm (fieldSimm13 w))
  else if fieldCero8 w = 0#8 then .ok (.reg (fieldRo2 w))
  else .error .ceroNotZero

/-- The count operand of a shift (R64, R66): bits 12:5 are ignored with `i` = 1 (R83). -/
def decodeCount (w : Word) : Except Reject ShiftCount :=
  if fieldI w = 1#1 then .ok (.imm (fieldRo2 w))
  else if fieldCero8 w = 0#8 then .ok (.reg (fieldRo2 w))
  else .error .ceroNotZero

/-- An instruction with the operands `rd`, `ro1`, operand 2 (R64, R65). -/
def decodeFormat3 (k : Reg → Reg → Operand2 → Instr) (w : Word) : Decoded :=
  (decodeOperand2 w).map (k (fieldRd w) (fieldRo1 w))

/-- A shift (R64, R66). -/
def decodeShift (k : Reg → Reg → ShiftCount → Instr) (w : Word) : Decoded :=
  (decodeCount w).map (k (fieldRd w) (fieldRo1 w))

/-- An instruction whose `rd` field is reserved and zero (R70, R82). -/
def decodeRdZero (k : Reg → Operand2 → Instr) (w : Word) : Decoded :=
  if fieldRd w = 0#5 then (decodeOperand2 w).map (k (fieldRo1 w)) else .error .reservedNotZero

/-- A state-register read whose `ro1` field is reserved and zero (R68, R82). -/
def decodeRead (k : Reg → Instr) (w : Word) : Decoded :=
  if fieldRo1 w = 0#5 then
    if fieldCero14 w = 0#14 then .ok (k (fieldRd w)) else .error .ceroNotZero
  else .error .reservedNotZero

/-- `rd` with `op3` = `101000`: `ro1` selects `%y`, `%base` or `%limite` (R253, R260). -/
def decodeReadSelected (w : Word) : Decoded :=
  if fieldCero14 w = 0#14 then
    match fieldRo1 w with
    | 0#5 => .ok (.rdY (fieldRd w))
    | 1#5 => .ok (.rdBase (fieldRd w))
    | 2#5 => .ok (.rdLimite (fieldRd w))
    | _ => .error .unlistedSelector
  else .error .ceroNotZero

/-- `wr` with `op3` = `110000`: the `rd` field selects `%y`, `%base` or `%limite` (R78, R268). -/
def decodeWriteSelected (w : Word) : Decoded :=
  match fieldRd w with
  | 0#5 => (decodeOperand2 w).map (.wrY (fieldRo1 w))
  | 1#5 => (decodeOperand2 w).map (.wrBase (fieldRo1 w))
  | 2#5 => (decodeOperand2 w).map (.wrLimite (fieldRo1 w))
  | _ => .error .unlistedSelector

/-- The trap instruction of a `cond` field (R225). -/
def trapOfCond : BitVec 4 → Reg → Operand2 → Instr
  | 0b0000#4 => .tn
  | 0b0001#4 => .te
  | 0b0010#4 => .tle
  | 0b0011#4 => .tl
  | 0b0100#4 => .tleu
  | 0b0101#4 => .tcs
  | 0b0110#4 => .tneg
  | 0b0111#4 => .tvs
  | 0b1000#4 => .ta
  | 0b1001#4 => .tne
  | 0b1010#4 => .tg
  | 0b1011#4 => .tge
  | 0b1100#4 => .tgu
  | 0b1101#4 => .tcc
  | 0b1110#4 => .tpos
  | _ => .tvc

/-- The relative branch of a `cond` field (R172). -/
def branchOfCond : BitVec 4 → Bool → BitVec 22 → Instr
  | 0b0000#4 => .bn
  | 0b0001#4 => .be
  | 0b0010#4 => .ble
  | 0b0011#4 => .bl
  | 0b0100#4 => .bleu
  | 0b0101#4 => .bcs
  | 0b0110#4 => .bneg
  | 0b0111#4 => .bvs
  | 0b1000#4 => .ba
  | 0b1001#4 => .bne
  | 0b1010#4 => .bg
  | 0b1011#4 => .bge
  | 0b1100#4 => .bgu
  | 0b1101#4 => .bcc
  | 0b1110#4 => .bpos
  | _ => .bvc

/-- A trap instruction (R67): bit 29 (`r`) is reserved and zero (R82). -/
def decodeTrap (w : Word) : Decoded :=
  if fieldA w = 0#1 then (decodeOperand2 w).map (trapOfCond (fieldCond w) (fieldRo1 w))
  else .error .reservedNotZero

/-- `op` = `00` (R75). -/
def decodeOp00 (w : Word) : Decoded :=
  match fieldOp2 w with
  | 0b100#3 =>
    if fieldRd w = 0#5 ∧ fieldImm22 w = 0#22 then .ok .nop
    else .ok (.sethi (fieldRd w) (fieldImm22 w))
  | 0b010#3 => .ok (branchOfCond (fieldCond w) (fieldA w == 1#1) (fieldImm22 w))
  | _ => .error .unassignedOp2

/-- `op` = `10` (R77). -/
def decodeOp10 (w : Word) : Decoded :=
  match fieldOp3 w with
  | 0b000000#6 => decodeFormat3 .add w
  | 0b000001#6 => decodeFormat3 .and w
  | 0b000010#6 => decodeFormat3 .or w
  | 0b000011#6 => decodeFormat3 .xor w
  | 0b000100#6 => decodeFormat3 .sub w
  | 0b000101#6 => decodeFormat3 .andn w
  | 0b000110#6 => decodeFormat3 .orn w
  | 0b000111#6 => decodeFormat3 .xnor w
  | 0b001010#6 => decodeFormat3 .umul w
  | 0b001011#6 => decodeFormat3 .smul w
  | 0b001110#6 => decodeFormat3 .udiv w
  | 0b001111#6 => decodeFormat3 .sdiv w
  | 0b010000#6 => decodeFormat3 .addcc w
  | 0b010001#6 => decodeFormat3 .andcc w
  | 0b010010#6 => decodeFormat3 .orcc w
  | 0b010011#6 => decodeFormat3 .xorcc w
  | 0b010100#6 => decodeFormat3 .subcc w
  | 0b010101#6 => decodeFormat3 .andncc w
  | 0b010110#6 => decodeFormat3 .orncc w
  | 0b010111#6 => decodeFormat3 .xnorcc w
  | 0b011010#6 => decodeFormat3 .umulcc w
  | 0b011011#6 => decodeFormat3 .smulcc w
  | 0b011110#6 => decodeFormat3 .udivcc w
  | 0b011111#6 => decodeFormat3 .sdivcc w
  | 0b100101#6 => decodeShift .sll w
  | 0b100110#6 => decodeShift .srl w
  | 0b100111#6 => decodeShift .sra w
  | 0b101000#6 => decodeReadSelected w
  | 0b101001#6 => decodeRead .rdPsr w
  | 0b101010#6 => decodeRead .rdWim w
  | 0b101011#6 => decodeRead .rdTbr w
  | 0b110000#6 => decodeWriteSelected w
  | 0b110001#6 => decodeRdZero .wrPsr w
  | 0b110010#6 => decodeRdZero .wrWim w
  | 0b110011#6 => decodeRdZero .wrTbr w
  | 0b111000#6 => decodeFormat3 .jmp w
  | 0b111001#6 => decodeRdZero .rett w
  | 0b111010#6 => decodeTrap w
  | 0b111100#6 => decodeFormat3 .save w
  | 0b111101#6 => decodeFormat3 .restore w
  | _ => .error .unassignedOp3

/-- `op` = `11` (R71). -/
def decodeOp11 (w : Word) : Decoded :=
  match fieldOp3 w with
  | 0b000000#6 => decodeFormat3 .ld w
  | 0b000001#6 => decodeFormat3 .ldub w
  | 0b000010#6 => decodeFormat3 .lduh w
  | 0b000100#6 => decodeFormat3 .st w
  | 0b000101#6 => decodeFormat3 .stb w
  | 0b000110#6 => decodeFormat3 .sth w
  | 0b001001#6 => decodeFormat3 .ldsb w
  | 0b001010#6 => decodeFormat3 .ldsh w
  | _ => .error .unassignedOp3

/-- The decoder: the major op code selects the format (R60, R79). -/
def decode (w : Word) : Decoded :=
  match fieldOp w with
  | 0b00#2 => decodeOp00 w
  | 0b01#2 => .ok (.call (fieldDisp30 w))
  | 0b10#2 => decodeOp10 w
  | _ => decodeOp11 w

/-- The decoder on bytes in address order: the instruction and the bytes after it (R60, R85). -/
def decodeBytes (o : ByteOrder) : List Byte → Except Reject (Instr × List Byte)
  | b0 :: b1 :: b2 :: b3 :: rest => (decode (wordOfBytes o b0 b1 b2 b3)).map fun i => (i, rest)
  | _ => .error .tooShort

/-! ## Encoding -/

/-- Bits 13:0 of operand 2 (R64, R65). -/
def encodeOperand2 : Operand2 → BitVec 14
  | .reg ro2 => 0b0#1 ++ 0#8 ++ ro2
  | .imm siconst13 => 0b1#1 ++ siconst13

/-- Bits 13:0 of a shift count (R64, R66); the ignored bits are written zero. -/
def encodeCount : ShiftCount → BitVec 14
  | .reg ro2 => 0b0#1 ++ 0#8 ++ ro2
  | .imm const5 => 0b1#1 ++ 0#8 ++ const5

/-- A format 3 word (R64): `op`, `rd`, `op3`, `ro1` and bits 13:0. -/
def encodeFormat3 (op : BitVec 2) (rd : Reg) (op3 : BitVec 6) (ro1 : Reg) (low : BitVec 14) : Word :=
  op ++ rd ++ op3 ++ ro1 ++ low

/-- A format 2 word (R62, R63): `op` = `00`, bits 29:25, `op2` and bits 21:0. -/
def encodeFormat2 (high : BitVec 5) (op2 : BitVec 3) (imm22 : BitVec 22) : Word :=
  0b00#2 ++ high ++ op2 ++ imm22

/-- A relative branch (R63). -/
def encodeBranch (cond : BitVec 4) (a : Bool) (disp22 : BitVec 22) : Word :=
  encodeFormat2 (BitVec.ofBool a ++ cond) 0b010#3 disp22

/-- A trap instruction (R67). -/
def encodeTrap (cond : BitVec 4) (ro1 : Reg) (o : Operand2) : Word :=
  encodeFormat3 0b10#2 (0b0#1 ++ cond) 0b111010#6 ro1 (encodeOperand2 o)

/-- The word of an instruction (R61 to R70). -/
def encode (i : Instr) : Word :=
  match i with
  | .stb rd ro1 o => encodeFormat3 0b11#2 rd 0b000101#6 ro1 (encodeOperand2 o)
  | .sth rd ro1 o => encodeFormat3 0b11#2 rd 0b000110#6 ro1 (encodeOperand2 o)
  | .st rd ro1 o => encodeFormat3 0b11#2 rd 0b000100#6 ro1 (encodeOperand2 o)
  | .ldsb rd ro1 o => encodeFormat3 0b11#2 rd 0b001001#6 ro1 (encodeOperand2 o)
  | .ldsh rd ro1 o => encodeFormat3 0b11#2 rd 0b001010#6 ro1 (encodeOperand2 o)
  | .ldub rd ro1 o => encodeFormat3 0b11#2 rd 0b000001#6 ro1 (encodeOperand2 o)
  | .lduh rd ro1 o => encodeFormat3 0b11#2 rd 0b000010#6 ro1 (encodeOperand2 o)
  | .ld rd ro1 o => encodeFormat3 0b11#2 rd 0b000000#6 ro1 (encodeOperand2 o)
  | .sethi rd const22 => encodeFormat2 rd 0b100#3 const22
  | .add rd ro1 o => encodeFormat3 0b10#2 rd 0b000000#6 ro1 (encodeOperand2 o)
  | .addcc rd ro1 o => encodeFormat3 0b10#2 rd 0b010000#6 ro1 (encodeOperand2 o)
  | .and rd ro1 o => encodeFormat3 0b10#2 rd 0b000001#6 ro1 (encodeOperand2 o)
  | .andcc rd ro1 o => encodeFormat3 0b10#2 rd 0b010001#6 ro1 (encodeOperand2 o)
  | .andn rd ro1 o => encodeFormat3 0b10#2 rd 0b000101#6 ro1 (encodeOperand2 o)
  | .andncc rd ro1 o => encodeFormat3 0b10#2 rd 0b010101#6 ro1 (encodeOperand2 o)
  | .or rd ro1 o => encodeFormat3 0b10#2 rd 0b000010#6 ro1 (encodeOperand2 o)
  | .orcc rd ro1 o => encodeFormat3 0b10#2 rd 0b010010#6 ro1 (encodeOperand2 o)
  | .orn rd ro1 o => encodeFormat3 0b10#2 rd 0b000110#6 ro1 (encodeOperand2 o)
  | .orncc rd ro1 o => encodeFormat3 0b10#2 rd 0b010110#6 ro1 (encodeOperand2 o)
  | .udiv rd ro1 o => encodeFormat3 0b10#2 rd 0b001110#6 ro1 (encodeOperand2 o)
  | .udivcc rd ro1 o => encodeFormat3 0b10#2 rd 0b011110#6 ro1 (encodeOperand2 o)
  | .umul rd ro1 o => encodeFormat3 0b10#2 rd 0b001010#6 ro1 (encodeOperand2 o)
  | .umulcc rd ro1 o => encodeFormat3 0b10#2 rd 0b011010#6 ro1 (encodeOperand2 o)
  | .sdiv rd ro1 o => encodeFormat3 0b10#2 rd 0b001111#6 ro1 (encodeOperand2 o)
  | .sdivcc rd ro1 o => encodeFormat3 0b10#2 rd 0b011111#6 ro1 (encodeOperand2 o)
  | .smul rd ro1 o => encodeFormat3 0b10#2 rd 0b001011#6 ro1 (encodeOperand2 o)
  | .smulcc rd ro1 o => encodeFormat3 0b10#2 rd 0b011011#6 ro1 (encodeOperand2 o)
  | .sub rd ro1 o => encodeFormat3 0b10#2 rd 0b000100#6 ro1 (encodeOperand2 o)
  | .subcc rd ro1 o => encodeFormat3 0b10#2 rd 0b010100#6 ro1 (encodeOperand2 o)
  | .xor rd ro1 o => encodeFormat3 0b10#2 rd 0b000011#6 ro1 (encodeOperand2 o)
  | .xorcc rd ro1 o => encodeFormat3 0b10#2 rd 0b010011#6 ro1 (encodeOperand2 o)
  | .xnor rd ro1 o => encodeFormat3 0b10#2 rd 0b000111#6 ro1 (encodeOperand2 o)
  | .xnorcc rd ro1 o => encodeFormat3 0b10#2 rd 0b010111#6 ro1 (encodeOperand2 o)
  | .sll rd ro1 o => encodeFormat3 0b10#2 rd 0b100101#6 ro1 (encodeCount o)
  | .sra rd ro1 o => encodeFormat3 0b10#2 rd 0b100111#6 ro1 (encodeCount o)
  | .srl rd ro1 o => encodeFormat3 0b10#2 rd 0b100110#6 ro1 (encodeCount o)
  | .bn a disp22 => encodeBranch 0b0000#4 a disp22
  | .ba a disp22 => encodeBranch 0b1000#4 a disp22
  | .be a disp22 => encodeBranch 0b0001#4 a disp22
  | .bne a disp22 => encodeBranch 0b1001#4 a disp22
  | .ble a disp22 => encodeBranch 0b0010#4 a disp22
  | .bg a disp22 => encodeBranch 0b1010#4 a disp22
  | .bl a disp22 => encodeBranch 0b0011#4 a disp22
  | .bge a disp22 => encodeBranch 0b1011#4 a disp22
  | .bleu a disp22 => encodeBranch 0b0100#4 a disp22
  | .bgu a disp22 => encodeBranch 0b1100#4 a disp22
  | .bcs a disp22 => encodeBranch 0b0101#4 a disp22
  | .bcc a disp22 => encodeBranch 0b1101#4 a disp22
  | .bneg a disp22 => encodeBranch 0b0110#4 a disp22
  | .bpos a disp22 => encodeBranch 0b1110#4 a disp22
  | .bvs a disp22 => encodeBranch 0b0111#4 a disp22
  | .bvc a disp22 => encodeBranch 0b1111#4 a disp22
  | .jmp rd ro1 o => encodeFormat3 0b10#2 rd 0b111000#6 ro1 (encodeOperand2 o)
  | .rett ro1 o => encodeFormat3 0b10#2 0#5 0b111001#6 ro1 (encodeOperand2 o)
  | .call disp30 => 0b01#2 ++ disp30
  | .restore rd ro1 o => encodeFormat3 0b10#2 rd 0b111101#6 ro1 (encodeOperand2 o)
  | .save rd ro1 o => encodeFormat3 0b10#2 rd 0b111100#6 ro1 (encodeOperand2 o)
  | .tn ro1 o => encodeTrap 0b0000#4 ro1 o
  | .ta ro1 o => encodeTrap 0b1000#4 ro1 o
  | .te ro1 o => encodeTrap 0b0001#4 ro1 o
  | .tne ro1 o => encodeTrap 0b1001#4 ro1 o
  | .tle ro1 o => encodeTrap 0b0010#4 ro1 o
  | .tg ro1 o => encodeTrap 0b1010#4 ro1 o
  | .tl ro1 o => encodeTrap 0b0011#4 ro1 o
  | .tge ro1 o => encodeTrap 0b1011#4 ro1 o
  | .tleu ro1 o => encodeTrap 0b0100#4 ro1 o
  | .tgu ro1 o => encodeTrap 0b1100#4 ro1 o
  | .tcs ro1 o => encodeTrap 0b0101#4 ro1 o
  | .tcc ro1 o => encodeTrap 0b1101#4 ro1 o
  | .tneg ro1 o => encodeTrap 0b0110#4 ro1 o
  | .tpos ro1 o => encodeTrap 0b1110#4 ro1 o
  | .tvs ro1 o => encodeTrap 0b0111#4 ro1 o
  | .tvc ro1 o => encodeTrap 0b1111#4 ro1 o
  | .nop => encodeFormat2 0#5 0b100#3 0#22
  | .rdY rd => encodeFormat3 0b10#2 rd 0b101000#6 0#5 0#14
  | .rdPsr rd => encodeFormat3 0b10#2 rd 0b101001#6 0#5 0#14
  | .rdWim rd => encodeFormat3 0b10#2 rd 0b101010#6 0#5 0#14
  | .rdTbr rd => encodeFormat3 0b10#2 rd 0b101011#6 0#5 0#14
  | .rdBase rd => encodeFormat3 0b10#2 rd 0b101000#6 1#5 0#14
  | .rdLimite rd => encodeFormat3 0b10#2 rd 0b101000#6 2#5 0#14
  | .wrY ro1 o => encodeFormat3 0b10#2 0#5 0b110000#6 ro1 (encodeOperand2 o)
  | .wrPsr ro1 o => encodeFormat3 0b10#2 0#5 0b110001#6 ro1 (encodeOperand2 o)
  | .wrWim ro1 o => encodeFormat3 0b10#2 0#5 0b110010#6 ro1 (encodeOperand2 o)
  | .wrTbr ro1 o => encodeFormat3 0b10#2 0#5 0b110011#6 ro1 (encodeOperand2 o)
  | .wrBase ro1 o => encodeFormat3 0b10#2 1#5 0b110000#6 ro1 (encodeOperand2 o)
  | .wrLimite ro1 o => encodeFormat3 0b10#2 2#5 0b110000#6 ro1 (encodeOperand2 o)

/-! ## The host's entry point -/

/-- The instruction the decoder reads from the word `w` of `nbits` bits: its four bytes laid out in the
machine's byte order and given to the decoder. -/
def decodeTableWord (nbits w : Nat) : Option Instr :=
  match decodeBytes Machine.settings.byteOrder
      (bytesOfWord Machine.settings.byteOrder (BitVec.ofNat 32 (w % 2 ^ nbits))) with
  | .ok (i, _) => some i
  | .error _ => none

end Sys2Proof
end

