-- ==== Sys2Proof/Machine/State.lean ====
section
/-! DEFINITION. The state of the machine: the tuple at the head of `10_state.md`, as plain data; the
reasons a step can stop; and the state after reset. -/

namespace Sys2Proof.Machine

/-- The condition codes N, Z, V, C (R20). -/
structure Icc where
  n : Bool
  z : Bool
  v : Bool
  c : Bool
  deriving DecidableEq, Repr

/-- The architectural content of `%psr` (R23): the condition codes, the mode bit S, the previous mode
PS, the trap-enable bit ET and the current window pointer CWP. The packed image exists only for
`rd %psr` and `wr %psr`. -/
structure Psr where
  icc : Icc
  s : Bool
  ps : Bool
  et : Bool
  cwp : BitVec 5
  deriving DecidableEq, Repr

/-- `%tbr` (R26): the trap base address, bits 31:12, and the trap type, bits 11:4. Bits 3:0 are zero. -/
structure Tbr where
  tba : BitVec 20
  tt : BitVec 8
  deriving DecidableEq, Repr

/-- Memory (R31): the bytes that differ from what an unlisted address reads as, by address. -/
abbrev Memory := List Host.Cell

/-- The state of the integer unit (`10_state.md`). -/
structure State where
  /-- `G[0..7]` (R13). `G[0]` is never read or written: `%r0` is hardwired (R11). -/
  g : Vector Word 8
  /-- `W[0..511]`, 32 windows of 16 (R13). -/
  w : Vector Word 512
  /-- PC (R16). -/
  pc : Word
  /-- nPC (R17). -/
  npc : Word
  /-- `%y` (R22). -/
  y : Word
  /-- `%psr` (R23). -/
  psr : Psr
  /-- `%wim` (R25). -/
  wim : Word
  /-- `%tbr` (R26). -/
  tbr : Tbr
  /-- `%base` (R27). -/
  base : Word
  /-- `%limite` (R28). -/
  limite : Word
  /-- The next instruction is annulled (R29). -/
  annul : Bool
  /-- Error mode (R30). -/
  errorMode : Bool
  /-- `Mem` (R31), in the form `Memory.wf`. -/
  mem : Memory
  deriving DecidableEq, Repr

/-- Why the machine stops. -/
inductive Fault where
  /-- Raised by `step` alone, in error mode, where "the machine executes no instruction and no state
  changes; only reset leaves it" (R294). Safe: the hardware goes no further either. -/
  | errorMode
  deriving DecidableEq, Repr

/-- Why an instruction has no meaning here. -/
inductive Refusal where
  /-- Raised by an arm of `exec` for an instruction without a meaning; no arm does. Safe. -/
  | notModelled (mnemonic : String)
  deriving DecidableEq, Repr

/-- What one instruction or one step answers. -/
abbrev Result := Host.Outcome State Fault Refusal

/-- The exceptions of R281. The argument of `memAddressNotAligned` is for the reader alone (R280: no
register records it). -/
inductive Exc where
  | accessFaultFetch
  | illegalInstruction
  | privilegedInstruction
  | windowOverflow
  | windowUnderflow
  | memAddressNotAligned (dir : Word)
  | accessFaultData
  | divisionByZero
  | trapInstruction (n : BitVec 7)
  deriving DecidableEq, Repr

/-- Reset with the arguments `RESET_PC` and `MEM` (R32, R320). The spec states PC, nPC, S, ET, `annul`
and `error_mode`. DESIGN CHOICE (log entry 3, unsafe): every register it leaves unspecified is zero. -/
def State.resetWith (resetPc : Word) (mem : Memory) : State where
  g := Vector.replicate 8 0
  w := Vector.replicate 512 0
  pc := resetPc
  npc := resetPc + 4#32
  y := 0
  psr := { icc := { n := false, z := false, v := false, c := false }
           s := true, ps := false, et := false, cwp := 0 }
  wim := 0
  tbr := { tba := 0, tt := 0 }
  base := 0
  limite := 0
  annul := false
  errorMode := false
  mem := mem

/-- The machine right after reset: `RESET_PC` = 0 (R32, D27), nothing loaded. -/
def State.reset : State := State.resetWith 0 []

end Sys2Proof.Machine
end

