-- ==== Sys2Proof/Machine/Flags.lean ====
section
/-! DEFINITION. Every computation of the condition codes (R116 to R118, R120, R124) and the conditions of
the branches and traps (R172). -/

namespace Sys2Proof.Machine

/-- R116: the flags of the logical `cc` instructions, from the result. -/
def flagsLogic (r : Word) : Icc :=
  { n := r.msb, z := r == 0#32, v := false, c := false }

/-- R117: the flags of `addcc`. C is a carry out of bit 31; V says that the exact signed sum is outside
`-2^31 .. 2^31-1`. -/
def flagsAdd (a b : Word) : Icc :=
  { n := (a + b).msb
    z := a + b == 0#32
    v := decide (a.toInt + b.toInt < -2 ^ 31 ∨ 2 ^ 31 ≤ a.toInt + b.toInt)
    c := decide (2 ^ 32 ≤ a.toNat + b.toNat) }

/-- R118: the flags of `subcc`. C is the borrow (D8); V as in R117, of the exact signed difference. -/
def flagsSub (a b : Word) : Icc :=
  { n := (a - b).msb
    z := a - b == 0#32
    v := decide (a.toInt - b.toInt < -2 ^ 31 ∨ 2 ^ 31 ≤ a.toInt - b.toInt)
    c := decide (a.toNat < b.toNat) }

/-- R120: the flags of `umulcc` and `smulcc`, from the low word of the product alone. -/
def flagsMul (low : Word) : Icc :=
  { n := low.msb, z := low == 0#32, v := false, c := false }

/-- R124: the flags of `udivcc` and `sdivcc` when the quotient fits (D9). -/
def flagsDiv (q : Word) : Icc :=
  { n := q.msb, z := q == 0#32, v := false, c := false }

/-- The flags of a `cc` division whose quotient does not fit: part of `DIV_OVERFLOW` (R123). -/
def flagsDivOverflow (d : DivOverflow) : Icc :=
  { n := d.n, z := d.z, v := d.v, c := d.c }

/-- The base condition that `cond[2:0]` selects (R172). -/
def baseCond (f : Icc) : BitVec 3 → Bool
  | 0b000#3 => false
  | 0b001#3 => f.z
  | 0b010#3 => f.z || (f.n ^^ f.v)
  | 0b011#3 => f.n ^^ f.v
  | 0b100#3 => f.c || f.z
  | 0b101#3 => f.c
  | 0b110#3 => f.n
  | _ => f.v

/-- The condition of `cond` (R172): `cond[3]` negates what `cond[2:0]` selects. -/
def condTaken (cond : BitVec 4) (f : Icc) : Bool :=
  cond.msb ^^ baseCond f (cond.extractLsb' 0 3)

end Sys2Proof.Machine
end

