-- ==== Sys2Proof/Machine/Ops.lean ====
section
/-! DEFINITION. The named operations over registers, program counters and memory; taking an exception
and returning from one. -/

namespace Sys2Proof.Machine

/-! ## General registers (R10 to R14) -/

/-- The cell of `W` that visible register `r`, 8 to 31, names in window `cwp` (R13):
`(16*w + r - 8) mod 512`. -/
def windowIndex (cwp : BitVec 5) (r : Reg) : Fin 512 :=
  ⟨(16 * cwp.toNat + r.toNat - 8) % 512, Nat.mod_lt _ (by decide)⟩

/-- The globals after a write of visible register `r` (R11, R13). -/
def writeGlobals (g : Vector Word 8) (r : Reg) (v : Word) : Vector Word 8 :=
  if r = 0#5 then g else g.setIfInBounds r.toNat v

/-- The windowed registers after a write of visible register `r` in window `cwp` (R13). -/
def writeWindowed (w : Vector Word 512) (cwp : BitVec 5) (r : Reg) (v : Word) : Vector Word 512 :=
  if r.toNat < 8 then w else w.set (windowIndex cwp r).val v

/-- `x[r]` (R7, R11, R13): visible register `r` in the window selected by CWP. -/
def State.reg (s : State) (r : Reg) : Word :=
  if r = 0#5 then 0#32
  else if h : r.toNat < 8 then s.g[r.toNat]
  else s.w[windowIndex s.psr.cwp r]

/-- `x[r] <- v` (R7, R11, R13), in the window selected by the CWP of `s`. -/
def State.setReg (s : State) (r : Reg) (v : Word) : State :=
  { s with
    g := writeGlobals s.g r v
    w := writeWindowed s.w s.psr.cwp r v }

/-! ## State registers -/

/-- `PSR.CWP <- w` -/
def State.setCwp (s : State) (w : BitVec 5) : State :=
  { s with psr := { s.psr with cwp := w } }

/-- N, Z, V, C `<- f` -/
def State.setIcc (s : State) (f : Icc) : State :=
  { s with psr := { s.psr with icc := f } }

/-- `Y <- v` -/
def State.setY (s : State) (v : Word) : State := { s with y := v }

/-- The packed image of `%psr` that `rd %psr` reads (R23, R255); every bit without a field is zero. -/
def psrImage (p : Psr) : Word :=
  0#8 ++ BitVec.ofBool p.icc.n ++ BitVec.ofBool p.icc.z ++ BitVec.ofBool p.icc.v
    ++ BitVec.ofBool p.icc.c ++ 0#12 ++ BitVec.ofBool p.s ++ BitVec.ofBool p.ps
    ++ BitVec.ofBool p.et ++ p.cwp

/-- The content of `%psr` after `wr %psr` of `v` (R23, R263); every bit without a field is ignored. -/
def psrOfImage (v : Word) : Psr :=
  { icc := { n := v.getLsbD 23, z := v.getLsbD 22, v := v.getLsbD 21, c := v.getLsbD 20 }
    s := v.getLsbD 7
    ps := v.getLsbD 6
    et := v.getLsbD 5
    cwp := v.extractLsb' 0 5 }

/-- What `rd %tbr` reads (R26, R257): `TBA<<12 | tt<<4`. -/
def tbrImage (t : Tbr) : Word := t.tba ++ t.tt ++ 0#4

/-! ## Program counters (R16 to R19) -/

/-- The default advance (R18): `pc <- npc; npc <- npc + 4`. -/
def State.advance (s : State) : State := { s with pc := s.npc, npc := s.npc + 4#32 }

/-- A delayed transfer (R17): `pc <- npc; npc <- target`. -/
def State.transfer (s : State) (target : Word) : State := { s with pc := s.npc, npc := target }

/-- The value a relative displacement is added to (R170, R205; `BRANCH_BASE`). -/
def State.branchOrigin (p : Params) (s : State) : Word :=
  match p.branchBase with
  | .npc => s.npc
  | .pc => s.pc

/-- The step of an annulled instruction (R29): nothing is fetched and nothing else changes. -/
def State.annulledStep (s : State) : State := { s.advance with annul := false }

/-! ## Memory (R31, R40 to R42)

What an unlisted address reads as, `unlisted`, is zero. DESIGN CHOICE (log entry 4, unsafe): the spec
leaves a byte that nothing has loaded or written unspecified (R32). -/

/-- What an address without an entry reads as. -/
def unlisted : Byte := 0#8

/-- The byte at address `a`. -/
def Memory.read : Memory → Nat → Byte
  | [], _ => unlisted
  | (k, b) :: rest, a => if a = k then b else Memory.read rest a

/-- Memory with `b` at address `a`; the form stays canonical. -/
def Memory.write : Memory → Nat → Byte → Memory
  | [], a, b => if b = unlisted then [] else [(a, b)]
  | (k, c) :: rest, a, b =>
    if a < k then if b = unlisted then (k, c) :: rest else (a, b) :: (k, c) :: rest
    else if a = k then if b = unlisted then rest else (a, b) :: rest
    else (k, c) :: Memory.write rest a b

/-- Every entry has an address of `lo` or more and below 2^32, addresses rise strictly, and no entry
holds what an unlisted address reads as. -/
def Memory.wfFrom : Nat → Memory → Bool
  | _, [] => true
  | lo, (k, b) :: rest => lo ≤ k && k < 2 ^ 32 && b != unlisted && Memory.wfFrom (k + 1) rest

/-- The canonical form of memory. -/
def Memory.wf (m : Memory) : Bool := Memory.wfFrom 0 m

/-- `MemRead(a, 1)` (R42). -/
def memRead8 (m : Memory) (a : Word) : Byte := Memory.read m a.toNat

/-- `MemRead(a, 2)` (R42); addresses wrap modulo 2^32 (R55). -/
def memRead16 (o : ByteOrder) (m : Memory) (a : Word) : BitVec 16 :=
  halfOfBytes o (memRead8 m a) (memRead8 m (a + 1#32))

/-- `MemRead(a, 4)` (R42). -/
def memRead32 (o : ByteOrder) (m : Memory) (a : Word) : Word :=
  wordOfBytes o (memRead8 m a) (memRead8 m (a + 1#32)) (memRead8 m (a + 2#32))
    (memRead8 m (a + 3#32))

/-- Writes bytes at rising addresses from `a`. -/
def memWriteBytes (m : Memory) (a : Word) : List Byte → Memory
  | [] => m
  | b :: bs => memWriteBytes (Memory.write m a.toNat b) (a + 1#32) bs

/-- `MemWrite(a, 1, v)` (R42). -/
def memWrite8 (m : Memory) (a : Word) (v : Byte) : Memory := memWriteBytes m a [v]

/-- `MemWrite(a, 2, v)` (R42). -/
def memWrite16 (o : ByteOrder) (m : Memory) (a : Word) (v : BitVec 16) : Memory :=
  memWriteBytes m a (bytesOfHalf o v)

/-- `MemWrite(a, 4, v)` (R42). -/
def memWrite32 (o : ByteOrder) (m : Memory) (a : Word) (v : Word) : Memory :=
  memWriteBytes m a (bytesOfWord o v)

/-- Whether the `n` bytes from `a` exist (R48, R288). -/
def presentBytes (p : Params) (a : Word) : Nat → Bool
  | 0 => true
  | n + 1 => p.present a && presentBytes p (a + 1#32) n

/-- The address an access of `n` bytes at `dir` reaches (R49), or none where a byte is absent (R288) or the
translation faults. DESIGN CHOICE (log entry 24): R49 says of such a translation only that it returns "an
address or a fault"; the model makes that fault the access fault of an absent address. -/
def reach (p : Params) (s : State) (dir : Word) (n : Nat) (kind : AccessKind) : Option Word :=
  match p.translate s.base s.limite s.psr.s dir kind with
  | none => none
  | some a => if presentBytes p a n then some a else none

/-- The address of a data access at `dir` whose alignment is `aligned`, or the exception it raises:
alignment first, then the access fault (R91, R289). DESIGN CHOICE (log entry 24): a fault of `TRANSLATE` is
this access fault too, 0x09, after the alignment check; no rule names its exception or its place. -/
def dataAddress (p : Params) (s : State) (dir : Word) (n : Nat) (kind : AccessKind)
    (aligned : Bool) : Except Exc Word :=
  if aligned then
    match reach p s dir n kind with
    | none => .error .accessFaultData
    | some a => .ok a
  else .error (.memAddressNotAligned dir)

/-! ## Taking an exception (R280 to R293) -/

/-- The trap type of an exception (R281, D38). -/
def trapType : Exc → BitVec 8
  | .accessFaultFetch => 0x01#8
  | .illegalInstruction => 0x02#8
  | .privilegedInstruction => 0x03#8
  | .windowOverflow => 0x05#8
  | .windowUnderflow => 0x06#8
  | .memAddressNotAligned _ => 0x07#8
  | .accessFaultData => 0x09#8
  | .divisionByZero => 0x2A#8
  | .trapInstruction n => 0x80#8 + n.setWidth 8

/-- Where the handler of trap type `tt` starts (R291): `TBA :: tt :: 0000`. -/
def trapVector (tba : BitVec 20) (tt : BitVec 8) : Word := tba ++ tt ++ 0#4

/-- `PSR` after trap entry (R290): ET cleared, S saved in PS and set, CWP one window down. -/
def psrTrap (p : Psr) : Psr :=
  { p with et := false, ps := p.s, s := true, cwp := p.cwp - 1#5 }

/-- Trap entry (R290), with PC and nPC those of the instruction that raised the exception. -/
def trapEntry (tt : BitVec 8) (s : State) : State :=
  let inWindow := { s with psr := psrTrap s.psr }
  let saved := (inWindow.setReg 17#5 s.pc).setReg 18#5 s.npc
  { saved with
    tbr := { s.tbr with tt := tt }
    annul := false
    pc := trapVector s.tbr.tba tt
    npc := trapVector s.tbr.tba tt + 4#32 }

/-- Error mode (R293): `error_mode <- 1`, and nothing else changes. -/
def enterErrorMode (s : State) : State := { s with errorMode := true }

/-- An exception taken (R280): trap entry with ET = 1, error mode with ET = 0. -/
def takeTrap (e : Exc) (s : State) : State :=
  if s.psr.et then trapEntry (trapType e) s else enterErrorMode s

/-- `raise e` (R7): the instruction has no other effect. -/
def raise (e : Exc) (s : State) : Result := .next (takeTrap e s)

/-! ## Returning from one (R203) -/

/-- `PSR` after `rett` (R203): CWP one window up, ET set, S from PS. -/
def psrReturn (p : Psr) : Psr :=
  { p with cwp := p.cwp + 1#5, et := true, s := p.ps }

/-- The return itself (R203, R295), with the target already aligned. -/
def returnFromTrap (dir : Word) (s : State) : State :=
  { s.transfer dir with psr := psrReturn s.psr }

/-! ## Checks a parameter turns on -/

/-- `PrivilegedInstruction` is due (R286): with `PRIV_CHECK`, when S = 0. -/
def privilegeViolated (p : Params) (s : State) : Bool := p.privCheck && !s.psr.s

/-- A window trap is due (R287): with `WIM_CHECK`, when the WIM bit of the new window is 1. -/
def windowTrapped (p : Params) (s : State) (w : BitVec 5) : Bool :=
  p.wimCheck && s.wim.getLsbD w.toNat

end Sys2Proof.Machine
end

