-- ==== Sys2Proof/Machine/Operands.lean ====
section
/-! DEFINITION. Every operand form (R72, R90, R160). -/

namespace Sys2Proof.Machine

/-- `operand2` with a sign-extended immediate (R72): every instruction but the next two groups. -/
def State.operand2 (s : State) : Operand2 → Word
  | .reg ro2 => s.reg ro2
  | .imm siconst13 => sext32 siconst13

/-- `operand2` with a zero-extended immediate (R72): `umul umulcc udiv udivcc`. -/
def State.operand2U (s : State) : Operand2 → Word
  | .reg ro2 => s.reg ro2
  | .imm const13 => zext32 const13

/-- The shift count `n`, 0 to 31 (R160): the low five bits of a register, or `const5`. -/
def State.shiftCount (s : State) : ShiftCount → Nat
  | .reg ro2 => ((s.reg ro2).extractLsb' 0 5).toNat
  | .imm const5 => const5.toNat

/-- The effective address `dir` (R90): `(x[ro1] + operand2) mod 2^32`. -/
def State.dir (s : State) (ro1 : Reg) (o : Operand2) : Word := s.reg ro1 + s.operand2 o

/-- The value a `wr` writes (R261): `x[ro1] xor operand2`. -/
def State.wrValue (s : State) (ro1 : Reg) (o : Operand2) : Word := s.reg ro1 ^^^ s.operand2 o

end Sys2Proof.Machine
end

