-- ==== Sys2Proof/Machine/Branch.lean ====
section
/-! DEFINITION. The relative branches (`44_branch.md`). -/

namespace Sys2Proof.Machine

/-- Annul the next instruction where `c` holds (R29, R171). -/
def State.annulNextIf (s : State) (c : Bool) : State :=
  { s with annul := if c then true else s.annul }

/-- A relative branch (R170, R171). With `BA_A_ANNULS` also `ba,a` annuls its delay instruction. -/
def branchWith (p : Params) (cond : BitVec 4) (a : Bool) (disp22 : BitVec 22) (s : State) : Result :=
  if condTaken cond s.psr.icc then
    .next ((s.transfer (s.branchOrigin p + offset22 disp22)).annulNextIf
      (a && p.baAnnuls && cond == 0b1000#4))
  else .next (s.advance.annulNextIf a)

/-- `bn` (R174). -/
def execBn (a : Bool) (disp22 : BitVec 22) (s : State) : Result :=
  branchWith settings 0b0000#4 a disp22 s

/-- `ba` (R175). -/
def execBa (a : Bool) (disp22 : BitVec 22) (s : State) : Result :=
  branchWith settings 0b1000#4 a disp22 s

/-- `be` (R176). -/
def execBe (a : Bool) (disp22 : BitVec 22) (s : State) : Result :=
  branchWith settings 0b0001#4 a disp22 s

/-- `bne` (R177). -/
def execBne (a : Bool) (disp22 : BitVec 22) (s : State) : Result :=
  branchWith settings 0b1001#4 a disp22 s

/-- `ble` (R178). -/
def execBle (a : Bool) (disp22 : BitVec 22) (s : State) : Result :=
  branchWith settings 0b0010#4 a disp22 s

/-- `bg` (R179). -/
def execBg (a : Bool) (disp22 : BitVec 22) (s : State) : Result :=
  branchWith settings 0b1010#4 a disp22 s

/-- `bl` (R180). -/
def execBl (a : Bool) (disp22 : BitVec 22) (s : State) : Result :=
  branchWith settings 0b0011#4 a disp22 s

/-- `bge` (R181). -/
def execBge (a : Bool) (disp22 : BitVec 22) (s : State) : Result :=
  branchWith settings 0b1011#4 a disp22 s

/-- `bleu` (R182). -/
def execBleu (a : Bool) (disp22 : BitVec 22) (s : State) : Result :=
  branchWith settings 0b0100#4 a disp22 s

/-- `bgu` (R183). -/
def execBgu (a : Bool) (disp22 : BitVec 22) (s : State) : Result :=
  branchWith settings 0b1100#4 a disp22 s

/-- `bcs` (R184). -/
def execBcs (a : Bool) (disp22 : BitVec 22) (s : State) : Result :=
  branchWith settings 0b0101#4 a disp22 s

/-- `bcc` (R185). -/
def execBcc (a : Bool) (disp22 : BitVec 22) (s : State) : Result :=
  branchWith settings 0b1101#4 a disp22 s

/-- `bneg` (R186). -/
def execBneg (a : Bool) (disp22 : BitVec 22) (s : State) : Result :=
  branchWith settings 0b0110#4 a disp22 s

/-- `bpos` (R187). -/
def execBpos (a : Bool) (disp22 : BitVec 22) (s : State) : Result :=
  branchWith settings 0b1110#4 a disp22 s

/-- `bvs` (R188). -/
def execBvs (a : Bool) (disp22 : BitVec 22) (s : State) : Result :=
  branchWith settings 0b0111#4 a disp22 s

/-- `bvc` (R189). -/
def execBvc (a : Bool) (disp22 : BitVec 22) (s : State) : Result :=
  branchWith settings 0b1111#4 a disp22 s

end Sys2Proof.Machine
end

