-- ==== Sys2Proof/Machine/Jump.lean ====
section
/-! DEFINITION. `jmp`, `rett` and `call` (`45_jmp_rett_call.md`). -/

namespace Sys2Proof.Machine

/-- `jmp` (R200): a target that is not a multiple of 4 raises; otherwise `rd` receives the link value
(`JMP_LINK`) and the transfer is delayed. -/
def jmpWith (p : Params) (rd ro1 : Reg) (o : Operand2) (s : State) : Result :=
  if isWordAligned (s.dir ro1 o) then
    let link := match p.jmpLink with
      | .dir => s.dir ro1 o
      | .pc => s.pc
    .next ((s.setReg rd link).transfer (s.dir ro1 o))
  else raise (.memAddressNotAligned (s.dir ro1 o)) s

/-- `rett` (R203, R204). The checks stand in the order of R289; the operands are read in the window in
force before. -/
def rettWith (p : Params) (ro1 : Reg) (o : Operand2) (s : State) : Result :=
  if privilegeViolated p s then raise .privilegedInstruction s
  else if windowTrapped p s (s.psr.cwp + 1#5) then raise .windowUnderflow s
  else if isWordAligned (s.dir ro1 o) then .next (returnFromTrap (s.dir ro1 o) s)
  else raise (.memAddressNotAligned (s.dir ro1 o)) s

/-- `call` (R205): `%o7` receives the address of the `call`. -/
def callWith (p : Params) (disp30 : BitVec 30) (s : State) : Result :=
  .next ((s.setReg 15#5 s.pc).transfer (s.branchOrigin p + offset30 disp30))

/-- `jmp` (R200). -/
def execJmp (rd ro1 : Reg) (o : Operand2) (s : State) : Result := jmpWith settings rd ro1 o s

/-- `rett` (R203). -/
def execRett (ro1 : Reg) (o : Operand2) (s : State) : Result := rettWith settings ro1 o s

/-- `call` (R205). -/
def execCall (disp30 : BitVec 30) (s : State) : Result := callWith settings disp30 s

end Sys2Proof.Machine
end

