-- ==== Sys2Proof/Machine/LoadStore.lean ====
section
/-! DEFINITION. The eight memory access instructions (`40_memory_access.md`). -/

namespace Sys2Proof.Machine

/-- A load (R91): check the alignment, read at the address reached, write `rd`, advance. -/
def loadWith (p : Params) (n : Nat) (aligned : Word → Bool) (value : Memory → Word → Word)
    (rd ro1 : Reg) (o : Operand2) (s : State) : Result :=
  match dataAddress p s (s.dir ro1 o) n .load (aligned (s.dir ro1 o)) with
  | .error e => raise e s
  | .ok a => .next (s.setReg rd (value s.mem a)).advance

/-- A store (R91): check the alignment, write at the address reached, advance. -/
def storeWith (p : Params) (n : Nat) (aligned : Word → Bool) (store : Memory → Word → Word → Memory)
    (rd ro1 : Reg) (o : Operand2) (s : State) : Result :=
  match dataAddress p s (s.dir ro1 o) n .store (aligned (s.dir ro1 o)) with
  | .error e => raise e s
  | .ok a => .next { s with mem := store s.mem a (s.reg rd) }.advance

/-- A byte access has no alignment requirement (R43). -/
def anyAlignment (_ : Word) : Bool := true

/-- `stb` (R98) at any parameters: bits 7:0 of `x[rd]`. -/
def stbWith (p : Params) (rd ro1 : Reg) (o : Operand2) (s : State) : Result :=
  storeWith p 1 anyAlignment (fun m a v => memWrite8 m a (v.extractLsb' 0 8)) rd ro1 o s

/-- `sth` (R99) at any parameters: bits 15:0 of `x[rd]`, at an even address. -/
def sthWith (p : Params) (rd ro1 : Reg) (o : Operand2) (s : State) : Result :=
  storeWith p 2 isHalfAligned (fun m a v => memWrite16 p.byteOrder m a (v.extractLsb' 0 16)) rd ro1 o s

/-- `st` (R97) at any parameters: `x[rd]`, at a multiple of 4. -/
def stWith (p : Params) (rd ro1 : Reg) (o : Operand2) (s : State) : Result :=
  storeWith p 4 isWordAligned (memWrite32 p.byteOrder) rd ro1 o s

/-- `ldsb` (R95) at any parameters: a byte, sign-extended. -/
def ldsbWith (p : Params) (rd ro1 : Reg) (o : Operand2) (s : State) : Result :=
  loadWith p 1 anyAlignment (fun m a => sext32 (memRead8 m a)) rd ro1 o s

/-- `ldsh` (R96) at any parameters: a half word, sign-extended, from an even address. -/
def ldshWith (p : Params) (rd ro1 : Reg) (o : Operand2) (s : State) : Result :=
  loadWith p 2 isHalfAligned (fun m a => sext32 (memRead16 p.byteOrder m a)) rd ro1 o s

/-- `ldub` (R93) at any parameters: a byte, zero-extended. -/
def ldubWith (p : Params) (rd ro1 : Reg) (o : Operand2) (s : State) : Result :=
  loadWith p 1 anyAlignment (fun m a => zext32 (memRead8 m a)) rd ro1 o s

/-- `lduh` (R94) at any parameters: a half word, zero-extended, from an even address. -/
def lduhWith (p : Params) (rd ro1 : Reg) (o : Operand2) (s : State) : Result :=
  loadWith p 2 isHalfAligned (fun m a => zext32 (memRead16 p.byteOrder m a)) rd ro1 o s

/-- `ld` (R92) at any parameters: a word, from a multiple of 4. -/
def ldWith (p : Params) (rd ro1 : Reg) (o : Operand2) (s : State) : Result :=
  loadWith p 4 isWordAligned (memRead32 p.byteOrder) rd ro1 o s

/-- `stb` (R98). -/
def execStb (rd ro1 : Reg) (o : Operand2) (s : State) : Result := stbWith settings rd ro1 o s

/-- `sth` (R99). -/
def execSth (rd ro1 : Reg) (o : Operand2) (s : State) : Result := sthWith settings rd ro1 o s

/-- `st` (R97). -/
def execSt (rd ro1 : Reg) (o : Operand2) (s : State) : Result := stWith settings rd ro1 o s

/-- `ldsb` (R95). -/
def execLdsb (rd ro1 : Reg) (o : Operand2) (s : State) : Result := ldsbWith settings rd ro1 o s

/-- `ldsh` (R96). -/
def execLdsh (rd ro1 : Reg) (o : Operand2) (s : State) : Result := ldshWith settings rd ro1 o s

/-- `ldub` (R93). -/
def execLdub (rd ro1 : Reg) (o : Operand2) (s : State) : Result := ldubWith settings rd ro1 o s

/-- `lduh` (R94). -/
def execLduh (rd ro1 : Reg) (o : Operand2) (s : State) : Result := lduhWith settings rd ro1 o s

/-- `ld` (R92). -/
def execLd (rd ro1 : Reg) (o : Operand2) (s : State) : Result := ldWith settings rd ro1 o s

end Sys2Proof.Machine
end

