-- ==== Sys2Proof/Machine/LogicArith.lean ====
section
/-! DEFINITION. `sethi`, `nop`, and the logic, addition and subtraction instructions (`41_sethi.md`, `48_nop.md`,
`42_logic_arith.md`). -/

namespace Sys2Proof.Machine

/-- The result to `rd`, then the advance (R115, without `cc`). -/
def aluWrite (rd : Reg) (r : Word) (s : State) : Result := .next (s.setReg rd r).advance

/-- The result to `rd`, the flags, then the advance (R115, with `cc`). -/
def aluWriteCc (rd : Reg) (r : Word) (f : Icc) (s : State) : Result :=
  .next ((s.setReg rd r).setIcc f).advance

/-- `sethi` (R110): `const22` in bits 31:10, zeros below. -/
def execSethi (rd : Reg) (const22 : BitVec 22) (s : State) : Result :=
  aluWrite rd (const22 ++ 0#10) s

/-- `nop` (R250): the advance alone. -/
def execNop (s : State) : Result := .next s.advance

/-- `add` (R126): `(a + b) mod 2^32`. -/
def execAdd (rd ro1 : Reg) (o : Operand2) (s : State) : Result :=
  aluWrite rd (s.reg ro1 + s.operand2 o) s

/-- `addcc` (R127): `(a + b) mod 2^32`, flags by R117. -/
def execAddcc (rd ro1 : Reg) (o : Operand2) (s : State) : Result :=
  aluWriteCc rd (s.reg ro1 + s.operand2 o)
    (flagsAdd (s.reg ro1) (s.operand2 o)) s

/-- `and` (R128): `a AND b`. -/
def execAnd (rd ro1 : Reg) (o : Operand2) (s : State) : Result :=
  aluWrite rd (s.reg ro1 &&& s.operand2 o) s

/-- `andcc` (R129): `a AND b`, flags by R116. -/
def execAndcc (rd ro1 : Reg) (o : Operand2) (s : State) : Result :=
  aluWriteCc rd (s.reg ro1 &&& s.operand2 o)
    (flagsLogic (s.reg ro1 &&& s.operand2 o)) s

/-- `andn` (R130): `a AND (NOT b)`. -/
def execAndn (rd ro1 : Reg) (o : Operand2) (s : State) : Result :=
  aluWrite rd (s.reg ro1 &&& ~~~(s.operand2 o)) s

/-- `andncc` (R131): `a AND (NOT b)`, flags by R116. -/
def execAndncc (rd ro1 : Reg) (o : Operand2) (s : State) : Result :=
  aluWriteCc rd (s.reg ro1 &&& ~~~(s.operand2 o))
    (flagsLogic (s.reg ro1 &&& ~~~(s.operand2 o))) s

/-- `or` (R132): `a OR b`. -/
def execOr (rd ro1 : Reg) (o : Operand2) (s : State) : Result :=
  aluWrite rd (s.reg ro1 ||| s.operand2 o) s

/-- `orcc` (R133): `a OR b`, flags by R116. -/
def execOrcc (rd ro1 : Reg) (o : Operand2) (s : State) : Result :=
  aluWriteCc rd (s.reg ro1 ||| s.operand2 o)
    (flagsLogic (s.reg ro1 ||| s.operand2 o)) s

/-- `orn` (R134): `a OR (NOT b)`. -/
def execOrn (rd ro1 : Reg) (o : Operand2) (s : State) : Result :=
  aluWrite rd (s.reg ro1 ||| ~~~(s.operand2 o)) s

/-- `orncc` (R135): `a OR (NOT b)`, flags by R116. -/
def execOrncc (rd ro1 : Reg) (o : Operand2) (s : State) : Result :=
  aluWriteCc rd (s.reg ro1 ||| ~~~(s.operand2 o))
    (flagsLogic (s.reg ro1 ||| ~~~(s.operand2 o))) s

/-- `sub` (R144): `(a - b) mod 2^32`. -/
def execSub (rd ro1 : Reg) (o : Operand2) (s : State) : Result :=
  aluWrite rd (s.reg ro1 - s.operand2 o) s

/-- `subcc` (R145): `(a - b) mod 2^32`, flags by R118. -/
def execSubcc (rd ro1 : Reg) (o : Operand2) (s : State) : Result :=
  aluWriteCc rd (s.reg ro1 - s.operand2 o)
    (flagsSub (s.reg ro1) (s.operand2 o)) s

/-- `xor` (R146): `a XOR b`. -/
def execXor (rd ro1 : Reg) (o : Operand2) (s : State) : Result :=
  aluWrite rd (s.reg ro1 ^^^ s.operand2 o) s

/-- `xorcc` (R147): `a XOR b`, flags by R116. -/
def execXorcc (rd ro1 : Reg) (o : Operand2) (s : State) : Result :=
  aluWriteCc rd (s.reg ro1 ^^^ s.operand2 o)
    (flagsLogic (s.reg ro1 ^^^ s.operand2 o)) s

/-- `xnor` (R148): `a XOR (NOT b)`. -/
def execXnor (rd ro1 : Reg) (o : Operand2) (s : State) : Result :=
  aluWrite rd (s.reg ro1 ^^^ ~~~(s.operand2 o)) s

/-- `xnorcc` (R149): `a XOR (NOT b)`, flags by R116. -/
def execXnorcc (rd ro1 : Reg) (o : Operand2) (s : State) : Result :=
  aluWriteCc rd (s.reg ro1 ^^^ ~~~(s.operand2 o))
    (flagsLogic (s.reg ro1 ^^^ ~~~(s.operand2 o))) s

end Sys2Proof.Machine
end

