-- ==== Sys2Proof/Machine/MulDiv.lean ====
section
/-! DEFINITION. The multiplications and divisions (`42_logic_arith.md`, R119 to R124, R136 to R143). -/

namespace Sys2Proof.Machine

/-- The unsigned product (R119): `zext_64(a) * zext_64(b)`. -/
def productU (a b : Word) : BitVec 64 := a.setWidth 64 * b.setWidth 64

/-- The signed product (R119): `sext_64(a) * sext_64(b)`. -/
def productS (a b : Word) : BitVec 64 := a.signExtend 64 * b.signExtend 64

/-- Bits 31:0 of a product. -/
def productLow (p : BitVec 64) : Word := p.extractLsb' 0 32

/-- Bits 63:32 of a product. -/
def productHigh (p : BitVec 64) : Word := p.extractLsb' 32 32

/-- `Y <- p[63:32]; x[rd] <- p[31:0]` (R119). -/
def mulWrite (rd : Reg) (p : BitVec 64) (s : State) : State :=
  (s.setReg rd (productLow p)).setY (productHigh p)

/-- The unsigned quotient and remainder of `Y :: a` by `b`, or none where the quotient does not fit
(R121, R123). -/
def divideU (y a b : Word) : Option (Word × Word) :=
  let d := (y ++ a).toNat
  if d / b.toNat < 2 ^ 32 then
    some (BitVec.ofNat 32 (d / b.toNat), BitVec.ofNat 32 (d % b.toNat))
  else none

/-- The signed quotient, rounded toward zero, and remainder of `Y :: a` by `b`, or none where the
quotient does not fit (R121, R123, D12). -/
def divideS (y a b : Word) : Option (Word × Word) :=
  let d := (y ++ a).toInt
  let q := d.tdiv b.toInt
  if -2 ^ 31 ≤ q ∧ q < 2 ^ 31 then
    some (BitVec.ofInt 32 q, BitVec.ofInt 32 (d - q * b.toInt))
  else none

/-- The condition codes written only by the `cc` form. -/
def State.setIccIf (s : State) (cc : Bool) (f : Icc) : State :=
  { s with psr := { s.psr with icc := if cc then f else s.psr.icc } }

/-- What a division writes: the quotient to `rd`, the remainder to `Y`, the flags for `cc`. -/
def divWrite (cc : Bool) (rd : Reg) (q rem : Word) (f : Icc) (s : State) : State :=
  (((s.setReg rd q).setY rem).setIccIf cc f).advance

/-- A division (R121 to R124). A quotient that does not fit is the free value `DIV_OVERFLOW`. -/
def divideWith (signed : Bool) (divide : Word → Word → Word → Option (Word × Word)) (cc : Bool)
    (rd : Reg) (a b : Word) (s : State) : Result :=
  if b = 0#32 then raise .divisionByZero s
  else
    match divide s.y a b with
    | some (q, rem) => .next (divWrite cc rd q rem (flagsDiv q) s)
    | none =>
      let d := Config.divOverflow signed s.y a b
      .next (divWrite cc rd d.quot d.rem (flagsDivOverflow d) s)

/-- `umul` (R138): the unsigned product, the immediate zero-extended. -/
def execUmul (rd ro1 : Reg) (o : Operand2) (s : State) : Result :=
  .next (mulWrite rd (productU (s.reg ro1) (s.operand2U o)) s).advance

/-- `umulcc` (R139): the unsigned product, flags by R120. -/
def execUmulcc (rd ro1 : Reg) (o : Operand2) (s : State) : Result :=
  .next ((mulWrite rd (productU (s.reg ro1) (s.operand2U o)) s).setIcc
    (flagsMul (productLow (productU (s.reg ro1) (s.operand2U o))))).advance

/-- `smul` (R142): the signed product, the immediate sign-extended. -/
def execSmul (rd ro1 : Reg) (o : Operand2) (s : State) : Result :=
  .next (mulWrite rd (productS (s.reg ro1) (s.operand2 o)) s).advance

/-- `smulcc` (R143): the signed product, flags by R120. -/
def execSmulcc (rd ro1 : Reg) (o : Operand2) (s : State) : Result :=
  .next ((mulWrite rd (productS (s.reg ro1) (s.operand2 o)) s).setIcc
    (flagsMul (productLow (productS (s.reg ro1) (s.operand2 o))))).advance

/-- `udiv` (R136). -/
def execUdiv (rd ro1 : Reg) (o : Operand2) (s : State) : Result :=
  divideWith false divideU false rd (s.reg ro1) (s.operand2U o) s

/-- `udivcc` (R137): flags by R124. -/
def execUdivcc (rd ro1 : Reg) (o : Operand2) (s : State) : Result :=
  divideWith false divideU true rd (s.reg ro1) (s.operand2U o) s

/-- `sdiv` (R140). -/
def execSdiv (rd ro1 : Reg) (o : Operand2) (s : State) : Result :=
  divideWith true divideS false rd (s.reg ro1) (s.operand2 o) s

/-- `sdivcc` (R141): flags by R124. -/
def execSdivcc (rd ro1 : Reg) (o : Operand2) (s : State) : Result :=
  divideWith true divideS true rd (s.reg ro1) (s.operand2 o) s

end Sys2Proof.Machine
end

