-- ==== Sys2Proof/Machine/Shift.lean ====
section
/-! DEFINITION. The shifts (`43_shift.md`); none reads or writes a flag (R160). -/

namespace Sys2Proof.Machine

/-- `sll` (R161): zeros enter on the right. -/
def execSll (rd ro1 : Reg) (o : ShiftCount) (s : State) : Result :=
  .next (s.setReg rd (s.reg ro1 <<< s.shiftCount o)).advance

/-- `sra` (R162): the vacated bits are copies of bit 31. -/
def execSra (rd ro1 : Reg) (o : ShiftCount) (s : State) : Result :=
  .next (s.setReg rd ((s.reg ro1).sshiftRight (s.shiftCount o))).advance

/-- `srl` (R163): zeros enter on the left. -/
def execSrl (rd ro1 : Reg) (o : ShiftCount) (s : State) : Result :=
  .next (s.setReg rd (s.reg ro1 >>> s.shiftCount o)).advance

end Sys2Proof.Machine
end

