-- ==== Sys2Proof/Machine/StateRegs.lean ====
section
/-! DEFINITION. The reads and writes of the state registers (`49_state_regs.md`). -/

namespace Sys2Proof.Machine

/-- The six state registers of the tables of R253 and R261. -/
inductive StateReg where
  | y
  | psr
  | wim
  | tbr
  | base
  | limite
  deriving DecidableEq, Repr

/-- What `PRIV_CHECK` reserves to supervisor mode (R270, R286): every state register but `%y`. -/
def StateReg.isReserved : StateReg → Bool
  | .y => false
  | .psr | .wim | .tbr | .base | .limite => true

/-- What a read of a state register gives (R254 to R259). -/
def State.readStateReg (s : State) : StateReg → Word
  | .y => s.y
  | .psr => psrImage s.psr
  | .wim => s.wim
  | .tbr => tbrImage s.tbr
  | .base => s.base
  | .limite => s.limite

/-- A write of `v` to a state register (R262 to R267): all eight fields of `%psr` together; of `%tbr` TBA
alone, `tt` keeping its value. -/
def State.writeStateReg (s : State) (r : StateReg) (v : Word) : State :=
  match r with
  | .y => s.setY v
  | .psr => { s with psr := psrOfImage v }
  | .wim => { s with wim := v }
  | .tbr => { s with tbr := { s.tbr with tba := v.extractLsb' 12 20 } }
  | .base => { s with base := v }
  | .limite => { s with limite := v }

/-- A state-register read (R253): `x[rd] <- statereg`, unless `PRIV_CHECK` reserves it (R270). -/
def rdWith (p : Params) (r : StateReg) (rd : Reg) (s : State) : Result :=
  if r.isReserved && privilegeViolated p s then raise .privilegedInstruction s
  else .next (s.setReg rd (s.readStateReg r)).advance

/-- A state-register write (R261): `statereg <- x[ro1] xor operand2`, unless `PRIV_CHECK` reserves it
(R270). -/
def wrWith (p : Params) (r : StateReg) (ro1 : Reg) (o : Operand2) (s : State) : Result :=
  if r.isReserved && privilegeViolated p s then raise .privilegedInstruction s
  else .next (s.writeStateReg r (s.wrValue ro1 o)).advance

/-- `rd %y` (R254). -/
def execRdY (rd : Reg) (s : State) : Result := rdWith settings .y rd s

/-- `rd %psr` (R255). -/
def execRdPsr (rd : Reg) (s : State) : Result := rdWith settings .psr rd s

/-- `rd %wim` (R256). -/
def execRdWim (rd : Reg) (s : State) : Result := rdWith settings .wim rd s

/-- `rd %tbr` (R257). -/
def execRdTbr (rd : Reg) (s : State) : Result := rdWith settings .tbr rd s

/-- `rd %base` (R258). -/
def execRdBase (rd : Reg) (s : State) : Result := rdWith settings .base rd s

/-- `rd %limite` (R259). -/
def execRdLimite (rd : Reg) (s : State) : Result := rdWith settings .limite rd s

/-- `wr %y` (R262). -/
def execWrY (ro1 : Reg) (o : Operand2) (s : State) : Result := wrWith settings .y ro1 o s

/-- `wr %psr` (R263). -/
def execWrPsr (ro1 : Reg) (o : Operand2) (s : State) : Result := wrWith settings .psr ro1 o s

/-- `wr %wim` (R264). -/
def execWrWim (ro1 : Reg) (o : Operand2) (s : State) : Result := wrWith settings .wim ro1 o s

/-- `wr %tbr` (R265). -/
def execWrTbr (ro1 : Reg) (o : Operand2) (s : State) : Result := wrWith settings .tbr ro1 o s

/-- `wr %base` (R266). -/
def execWrBase (ro1 : Reg) (o : Operand2) (s : State) : Result := wrWith settings .base ro1 o s

/-- `wr %limite` (R267). -/
def execWrLimite (ro1 : Reg) (o : Operand2) (s : State) : Result := wrWith settings .limite ro1 o s

end Sys2Proof.Machine
end

