-- ==== Sys2Proof/Machine/Trap.lean ====
section
/-! DEFINITION. The trap instructions (`47_trap_instr.md`). -/

namespace Sys2Proof.Machine

/-- The software trap number (R226): bits 6:0 of `x[ro1] + operand2`. -/
def trapNumber (s : State) (ro1 : Reg) (o : Operand2) : BitVec 7 := (s.dir ro1 o).extractLsb' 0 7

/-- A trap instruction (R225 to R227): the exception where the condition holds, the advance where not. -/
def trapIf (cond : BitVec 4) (ro1 : Reg) (o : Operand2) (s : State) : Result :=
  if condTaken cond s.psr.icc then raise (.trapInstruction (trapNumber s ro1 o)) s
  else .next s.advance

/-- `tn` (R228). -/
def execTn (ro1 : Reg) (o : Operand2) (s : State) : Result :=
  trapIf 0b0000#4 ro1 o s

/-- `ta` (R229). -/
def execTa (ro1 : Reg) (o : Operand2) (s : State) : Result :=
  trapIf 0b1000#4 ro1 o s

/-- `te` (R230). -/
def execTe (ro1 : Reg) (o : Operand2) (s : State) : Result :=
  trapIf 0b0001#4 ro1 o s

/-- `tne` (R231). -/
def execTne (ro1 : Reg) (o : Operand2) (s : State) : Result :=
  trapIf 0b1001#4 ro1 o s

/-- `tle` (R232). -/
def execTle (ro1 : Reg) (o : Operand2) (s : State) : Result :=
  trapIf 0b0010#4 ro1 o s

/-- `tg` (R233). -/
def execTg (ro1 : Reg) (o : Operand2) (s : State) : Result :=
  trapIf 0b1010#4 ro1 o s

/-- `tl` (R234). -/
def execTl (ro1 : Reg) (o : Operand2) (s : State) : Result :=
  trapIf 0b0011#4 ro1 o s

/-- `tge` (R235). -/
def execTge (ro1 : Reg) (o : Operand2) (s : State) : Result :=
  trapIf 0b1011#4 ro1 o s

/-- `tleu` (R236). -/
def execTleu (ro1 : Reg) (o : Operand2) (s : State) : Result :=
  trapIf 0b0100#4 ro1 o s

/-- `tgu` (R237). -/
def execTgu (ro1 : Reg) (o : Operand2) (s : State) : Result :=
  trapIf 0b1100#4 ro1 o s

/-- `tcs` (R238). -/
def execTcs (ro1 : Reg) (o : Operand2) (s : State) : Result :=
  trapIf 0b0101#4 ro1 o s

/-- `tcc` (R239). -/
def execTcc (ro1 : Reg) (o : Operand2) (s : State) : Result :=
  trapIf 0b1101#4 ro1 o s

/-- `tneg` (R240). -/
def execTneg (ro1 : Reg) (o : Operand2) (s : State) : Result :=
  trapIf 0b0110#4 ro1 o s

/-- `tpos` (R241). -/
def execTpos (ro1 : Reg) (o : Operand2) (s : State) : Result :=
  trapIf 0b1110#4 ro1 o s

/-- `tvs` (R242). -/
def execTvs (ro1 : Reg) (o : Operand2) (s : State) : Result :=
  trapIf 0b0111#4 ro1 o s

/-- `tvc` (R243). -/
def execTvc (ro1 : Reg) (o : Operand2) (s : State) : Result :=
  trapIf 0b1111#4 ro1 o s

end Sys2Proof.Machine
end

