-- ==== Sys2Proof/Machine/Window.lean ====
section
/-! DEFINITION. `restore` and `save` (`46_window.md`). -/

namespace Sys2Proof.Machine

/-- `restore` (R216): the sum is read in the old window and written in the new, one up. -/
def restoreWith (p : Params) (rd ro1 : Reg) (o : Operand2) (s : State) : Result :=
  if windowTrapped p s (s.psr.cwp + 1#5) then raise .windowUnderflow s
  else .next (((s.setCwp (s.psr.cwp + 1#5)).setReg rd (s.reg ro1 + s.operand2 o)).advance)

/-- `save` (R217): the sum is read in the old window and written in the new, one down. -/
def saveWith (p : Params) (rd ro1 : Reg) (o : Operand2) (s : State) : Result :=
  if windowTrapped p s (s.psr.cwp - 1#5) then raise .windowOverflow s
  else .next (((s.setCwp (s.psr.cwp - 1#5)).setReg rd (s.reg ro1 + s.operand2 o)).advance)

/-- `restore` (R216). -/
def execRestore (rd ro1 : Reg) (o : Operand2) (s : State) : Result := restoreWith settings rd ro1 o s

/-- `save` (R217). -/
def execSave (rd ro1 : Reg) (o : Operand2) (s : State) : Result := saveWith settings rd ro1 o s

end Sys2Proof.Machine
end

