-- ==== Sys2Proof/Machine/Fetch.lean ====
section
/-! DEFINITION. Instruction fetch (R41, R45). -/

namespace Sys2Proof.Machine

/-- Where the fetch reads: PC, translated (R45, R49), or none where the address is absent (R288). -/
def fetchAddress (p : Params) (s : State) : Option Word := reach p s s.pc 4 .fetch

/-- The instruction fetched at PC (R41, R45), or the exception the fetch raises (R282, R288). DESIGN CHOICE
(log entry 24): a fault of `TRANSLATE` on the fetch is the access fault 0x01, which no rule says. -/
def fetchInstr (p : Params) (s : State) : Except Exc Instr :=
  match fetchAddress p s with
  | none => .error .accessFaultFetch
  | some a =>
    match decode (memRead32 p.byteOrder s.mem a) with
    | .ok i => .ok i
    | .error _ => .error .illegalInstruction

/-- Memory with the word of an instruction stored where the fetch of `s` reads. -/
def storeAtFetch (p : Params) (s : State) (word : Word) : Memory :=
  match fetchAddress p s with
  | none => s.mem
  | some a => memWrite32 p.byteOrder s.mem a word

end Sys2Proof.Machine
end

