-- ==== Sys2Proof/Machine/Step.lean ====
section
/-! DEFINITION. One step of the machine, and where a step fetches its instruction. -/

namespace Sys2Proof.Machine

/-- One step (R328: one instruction, an annulled slot included). In error mode nothing executes (R294).
With `annul` the slot passes without a fetch (R29). Otherwise the word at PC is fetched and executed, and
an exception of the fetch or the decoder is taken (R282, R288). -/
def step (s : State) : Host.Outcome State Fault Refusal :=
  if s.errorMode then .fault .errorMode
  else if s.annul then .next s.annulledStep
  else
    match fetchInstr settings s with
    | .error e => raise e s
    | .ok i => exec i s

/-- `s` with the word `w` stored where `step` fetches, and with the slot neither annulled nor stopped by
error mode, so that the next step runs that word. It stands for the loading of a program (log entry 5). -/
def State.withFetchWord (s : State) (nbits w : Nat) : State :=
  { s with
    mem := storeAtFetch settings s (BitVec.ofNat 32 (w % 2 ^ nbits))
    annul := false
    errorMode := false }

end Sys2Proof.Machine
end

