-- ==== Sys2Proof/Safety.lean ====
section
/-! DEFINITION. The terms claims are stated in: what an instruction keeps (its frame), the invariant of a
running machine, and how a run ends (R329). -/

namespace Sys2Proof.Machine

/-! ## Frames -/

/-- Every cell of `G` and `W` holds in `t` what it holds in `s`, but the one that visible register `rd`
names in window `cwp` (R13); no cell is excepted for `%r0` (R11). -/
def CellsKept (cwp : BitVec 5) (rd : Reg) (s t : State) : Prop :=
  (∀ k : Fin 8, rd = 0#5 ∨ k.val ≠ rd.toNat → t.g[k] = s.g[k]) ∧
  (∀ k : Fin 512, rd.toNat < 8 ∨ k ≠ windowIndex cwp rd → t.w[k] = s.w[k])

/-- Every cell of `G` and `W` holds in `t` what it holds in `s`. -/
def AllCellsKept (s t : State) : Prop := t.g = s.g ∧ t.w = s.w

/-- Every cell of `G` and `W` holds in `t` what it holds in `s`, but the two that visible register `r₁` names
in window `w₁` and visible register `r₂` in window `w₂`; no cell is excepted for `%r0`. -/
def CellsKeptBut (w₁ : BitVec 5) (r₁ : Reg) (w₂ : BitVec 5) (r₂ : Reg) (s t : State) : Prop :=
  (∀ k : Fin 8, (r₁ = 0#5 ∨ k.val ≠ r₁.toNat) → (r₂ = 0#5 ∨ k.val ≠ r₂.toNat) → t.g[k] = s.g[k]) ∧
  (∀ k : Fin 512, (r₁.toNat < 8 ∨ k ≠ windowIndex w₁ r₁) → (r₂.toNat < 8 ∨ k ≠ windowIndex w₂ r₂) →
    t.w[k] = s.w[k])

/-- Every byte of memory reads in `t` as in `s`. -/
def MemoryKept (s t : State) : Prop := ∀ a : Word, memRead8 t.mem a = memRead8 s.mem a

/-- Every byte of memory outside the `n` bytes from `a` (modulo 2^32) reads in `t` as in `s`. -/
def MemoryKeptOutside (a : Word) (n : Nat) (s t : State) : Prop :=
  ∀ b : Word, n ≤ (b - a).toNat → memRead8 t.mem b = memRead8 s.mem b

/-- The default advance (R18). -/
def Advanced (s t : State) : Prop := t.pc = s.npc ∧ t.npc = s.npc + 4#32

/-- WIM, TBR, BASE, LIMITE, `annul` and `error_mode` are kept. -/
def SpecialsKept (s t : State) : Prop :=
  t.wim = s.wim ∧ t.tbr = s.tbr ∧ t.base = s.base ∧ t.limite = s.limite ∧
  t.annul = s.annul ∧ t.errorMode = s.errorMode

/-- Visible register `rd` of the window `t` is in holds `v`, or zero for `%r0` (R11), and no other cell
differs from `s`. -/
def WroteReg (rd : Reg) (v : Word) (s t : State) : Prop :=
  t.reg rd = (if rd = 0#5 then 0#32 else v) ∧ CellsKept t.psr.cwp rd s t

/-- The whole effect of an instruction that leaves `v` in `rd`, `y` in Y and `f` in the condition codes,
and keeps everything else but the advance. -/
def Effect (rd : Reg) (v y : Word) (f : Icc) (s t : State) : Prop :=
  WroteReg rd v s t ∧ t.y = y ∧ t.psr = { s.psr with icc := f } ∧ SpecialsKept s t ∧
  MemoryKept s t ∧ Advanced s t

/-- The whole effect of an instruction that writes `v` to `rd` and nothing else but the advance. -/
def OnlyWrites (rd : Reg) (v : Word) (s t : State) : Prop := Effect rd v s.y s.psr.icc s t

/-- The whole effect of an instruction that moves the program counters alone. -/
def OnlyMovesPc (pc npc : Word) (s t : State) : Prop :=
  t.pc = pc ∧ t.npc = npc ∧ AllCellsKept s t ∧ t.psr = s.psr ∧ t.y = s.y ∧ SpecialsKept s t ∧
  MemoryKept s t

/-- The whole effect of trap entry with trap type `tt` (R290, R291), `s` being the state the trapped
instruction began in. -/
structure TrapEntered (tt : BitVec 8) (s t : State) : Prop where
  et : t.psr.et = false
  ps : t.psr.ps = s.psr.s
  mode : t.psr.s = true
  cwp : t.psr.cwp = s.psr.cwp - 1#5
  icc : t.psr.icc = s.psr.icc
  l1 : t.reg 17#5 = s.pc
  l2 : t.reg 18#5 = s.npc
  globals : t.g = s.g
  windows : ∀ k : Fin 512, k ≠ windowIndex t.psr.cwp 17#5 → k ≠ windowIndex t.psr.cwp 18#5 →
    t.w[k] = s.w[k]
  tbr : t.tbr = { s.tbr with tt := tt }
  annul : t.annul = false
  pc : t.pc.toNat = s.tbr.tba.toNat * 4096 + tt.toNat * 16
  npc : t.npc = t.pc + 4#32
  y : t.y = s.y
  wim : t.wim = s.wim
  base : t.base = s.base
  limite : t.limite = s.limite
  errorMode : t.errorMode = s.errorMode
  memory : MemoryKept s t

/-- The step from `s` executes `i`: neither error mode nor an annulled slot, and `i` is what the fetch
reads at PC. -/
def Executes (s : State) (i : Instr) : Prop :=
  s.errorMode = false ∧ s.annul = false ∧ fetchInstr settings s = .ok i

/-- The step from `s` to `t` entered a trap (R290). -/
def EnteredTrap (s t : State) : Prop :=
  s.psr.et = true ∧ ∃ e, t = trapEntry (trapType e) s

/-! ## The invariant -/

/-- A multiple of 4. -/
def Aligned4 (a : Word) : Prop := a.toNat % 4 = 0

/-- What holds in every state of a machine started at reset: memory is in its canonical form, PC and
nPC are multiples of 4 (R19), `G[0]` holds zero, and a machine in error mode has nothing to annul
(R290: `annul` is 0 when an exception is raised). -/
structure Inv (s : State) : Prop where
  memory : Memory.wf s.mem = true
  pc : Aligned4 s.pc
  npc : Aligned4 s.npc
  g0 : s.g[0] = 0#32
  annul : s.errorMode = true → s.annul = false

/-! ## Runs

How a run ends is no part of the hardware: the readings below of the conventions of R329 are log entry 19. -/

/-- The conventions (a) to (d) of R329 for the end of a run (`HALT`). -/
inductive Halt where
  | afterSteps (n : Nat)
  | atPc (a : Word)
  | selfBranch
  | takenTa
  deriving DecidableEq, Repr

/-- The result of convention (d): the trap number of the `ta`, and `%o0`. -/
structure StopRequest where
  number : BitVec 7
  o0 : Word
  deriving DecidableEq, Repr

/-- The request of the `ta` that the next step would take, if it is one. -/
def stopRequest (s : State) : Option StopRequest :=
  if s.annul then none
  else
    match fetchInstr settings s with
    | .ok (.ta ro1 o) => some { number := trapNumber s ro1 o, o0 := s.reg 8#5 }
    | _ => none

/-- The next step would execute `ba -1`, followed by `nop` (convention (c)). -/
def atSelfBranch (s : State) : Bool :=
  !s.annul && memRead32 settings.byteOrder s.mem s.pc == 0x10BFFFFF#32
    && memRead32 settings.byteOrder s.mem (s.pc + 4#32) == 0x01000000#32

/-- Whether the run ends at `s`, after `k` steps. -/
def Halt.reached (h : Halt) (k : Nat) (s : State) : Bool :=
  match h with
  | .afterSteps n => k == n
  | .atPc a => s.pc == a
  | .selfBranch => atSelfBranch s
  | .takenTa => (stopRequest s).isSome

/-- What a run that ends at `s` asks for: under (d) the request of the `ta`. -/
def Halt.request (h : Halt) (s : State) : Option StopRequest :=
  match h with
  | .afterSteps _ | .atPc _ | .selfBranch => none
  | .takenTa => stopRequest s

/-- How a run went (R329). -/
inductive RunEnd where
  /-- The convention was reached, at `s`. -/
  | stopped (s : State) (request : Option StopRequest)
  /-- The convention was not reached within the steps allowed. -/
  | unfinished (s : State)
  /-- Error mode, which "always ends a run, as a fault". -/
  | faulted (r : Fault)
  /-- A refusal. -/
  | refused (r : Refusal)
  deriving DecidableEq, Repr

/-- How the run ends at `s`, after `k` steps, if it does: error mode comes before every convention. -/
def Halt.ended (h : Halt) (k : Nat) (s : State) : Option RunEnd :=
  if s.errorMode then some (.faulted .errorMode)
  else if h.reached k s then some (.stopped s (h.request s))
  else none

/-- A run to the convention `h`, of at most `fuel` steps, with `k` steps made (R329). -/
def runUntil (h : Halt) : Nat → Nat → State → RunEnd
  | 0, k, s => (h.ended k s).getD (.unfinished s)
  | fuel + 1, k, s =>
    match h.ended k s with
    | some e => e
    | none =>
      match step s with
      | .next t => runUntil h fuel (k + 1) t
      | .fault r => .faulted r
      | .refused r => .refused r

/-- A safe state: not error mode, which R294 calls "a terminal, faulted state". -/
def Safe (s : State) : Prop := s.errorMode = false

end Sys2Proof.Machine
end

