-- ==== Sys2Proof/Certificates/Slice0/Obligations.lean ====
section
/-! DEFINITION. The statements for the provers. -/

open Sys2Proof Sys2Proof.Machine

namespace Sys2Proof.Machine

/-! ## Lists the statements range over -/

/-- The sixteen relative branches, each with its condition on N, Z, V, C (R172, R174 to R189). -/
def branchRows (a : Bool) (d : BitVec 22) (f : Icc) : List (Instr × Bool) :=
  [(.bn a d, false), (.ba a d, true), (.be a d, f.z), (.bne a d, !f.z),
   (.ble a d, f.z || (f.n ^^ f.v)), (.bg a d, !(f.z || (f.n ^^ f.v))),
   (.bl a d, f.n ^^ f.v), (.bge a d, !(f.n ^^ f.v)),
   (.bleu a d, f.c || f.z), (.bgu a d, !(f.c || f.z)), (.bcs a d, f.c), (.bcc a d, !f.c),
   (.bneg a d, f.n), (.bpos a d, !f.n), (.bvs a d, f.v), (.bvc a d, !f.v)]

/-- The sixteen trap instructions, each with its condition on N, Z, V, C (R225, R228 to R243). -/
def trapRows (ro1 : Reg) (o : Operand2) (f : Icc) : List (Instr × Bool) :=
  [(.tn ro1 o, false), (.ta ro1 o, true), (.te ro1 o, f.z), (.tne ro1 o, !f.z),
   (.tle ro1 o, f.z || (f.n ^^ f.v)), (.tg ro1 o, !(f.z || (f.n ^^ f.v))),
   (.tl ro1 o, f.n ^^ f.v), (.tge ro1 o, !(f.n ^^ f.v)),
   (.tleu ro1 o, f.c || f.z), (.tgu ro1 o, !(f.c || f.z)), (.tcs ro1 o, f.c), (.tcc ro1 o, !f.c),
   (.tneg ro1 o, f.n), (.tpos ro1 o, !f.n), (.tvs ro1 o, f.v), (.tvc ro1 o, !f.v)]

/-- The logical instructions without `cc`, each with its result (R128, R130, R132, R134, R146, R148). -/
def logicRows (rd ro1 : Reg) (o : Operand2) (a b : Word) : List (Instr × Word) :=
  [(.and rd ro1 o, a &&& b), (.andn rd ro1 o, a &&& ~~~b), (.or rd ro1 o, a ||| b),
   (.orn rd ro1 o, a ||| ~~~b), (.xor rd ro1 o, a ^^^ b), (.xnor rd ro1 o, ~~~(a ^^^ b))]

/-- The logical instructions with `cc`, each with its result (R129, R131, R133, R135, R147, R149). -/
def logicCcRows (rd ro1 : Reg) (o : Operand2) (a b : Word) : List (Instr × Word) :=
  [(.andcc rd ro1 o, a &&& b), (.andncc rd ro1 o, a &&& ~~~b), (.orcc rd ro1 o, a ||| b),
   (.orncc rd ro1 o, a ||| ~~~b), (.xorcc rd ro1 o, a ^^^ b), (.xnorcc rd ro1 o, ~~~(a ^^^ b))]

/-- The instructions that write the condition codes (R21). -/
def writesIcc : Instr → Bool
  | .addcc .. | .andcc .. | .andncc .. | .orcc .. | .orncc .. | .udivcc .. | .umulcc .. => true
  | .sdivcc .. | .smulcc .. | .subcc .. | .xorcc .. | .xnorcc .. | .wrPsr .. => true
  | _ => false

/-- The instructions that write Y (R22). -/
def writesY : Instr → Bool
  | .umul .. | .umulcc .. | .smul .. | .smulcc .. | .udiv .. | .udivcc .. => true
  | .sdiv .. | .sdivcc .. | .wrY .. => true
  | _ => false

/-- The instructions that move CWP (R14). -/
def movesWindow : Instr → Bool
  | .save .. | .restore .. | .rett .. | .wrPsr .. => true
  | _ => false

/-- The instruction is a relative branch with its annul bit set that is not taken under `f` (R171). -/
def annulsNext (f : Icc) (i : Instr) : Prop := ∃ d, (i, false) ∈ branchRows true d f

/-- The 147 rows of `spec/opcode_table.json` as pairs of a mask and a value (R79). -/
def opcodeRows : List (Word × Word) :=
  [0xC0280000#32, 0xC0300000#32, 0xC0200000#32, 0xC0480000#32, 0xC0500000#32, 0xC0080000#32,
   0xC0100000#32, 0xC0000000#32, 0x80000000#32, 0x80800000#32, 0x80080000#32, 0x80880000#32,
   0x80280000#32, 0x80A80000#32, 0x80100000#32, 0x80900000#32, 0x80300000#32, 0x80B00000#32,
   0x80700000#32, 0x80F00000#32, 0x80500000#32, 0x80D00000#32, 0x80780000#32, 0x80F80000#32,
   0x80580000#32, 0x80D80000#32, 0x80200000#32, 0x80A00000#32, 0x80180000#32, 0x80980000#32,
   0x80380000#32, 0x80B80000#32, 0x81280000#32, 0x81380000#32, 0x81300000#32, 0x81C00000#32,
   0x81E80000#32, 0x81E00000#32].map (0xC1F83FE0#32, ·) ++
  [0xC0282000#32, 0xC0302000#32, 0xC0202000#32, 0xC0482000#32, 0xC0502000#32, 0xC0082000#32,
   0xC0102000#32, 0xC0002000#32, 0x80002000#32, 0x80802000#32, 0x80082000#32, 0x80882000#32,
   0x80282000#32, 0x80A82000#32, 0x80102000#32, 0x80902000#32, 0x80302000#32, 0x80B02000#32,
   0x80702000#32, 0x80F02000#32, 0x80502000#32, 0x80D02000#32, 0x80782000#32, 0x80F82000#32,
   0x80582000#32, 0x80D82000#32, 0x80202000#32, 0x80A02000#32, 0x80182000#32, 0x80982000#32,
   0x80382000#32, 0x80B82000#32, 0x81282000#32, 0x81382000#32, 0x81302000#32, 0x81C02000#32,
   0x81E82000#32, 0x81E02000#32].map (0xC1F82000#32, ·) ++
  [0x01000000#32].map (0xC1C00000#32, ·) ++
  [0x00800000#32, 0x10800000#32, 0x02800000#32, 0x12800000#32, 0x04800000#32, 0x14800000#32,
   0x06800000#32, 0x16800000#32, 0x08800000#32, 0x18800000#32, 0x0A800000#32, 0x1A800000#32,
   0x0C800000#32, 0x1C800000#32, 0x0E800000#32, 0x1E800000#32].map (0xDFC00000#32, ·) ++
  [0x81C80000#32, 0x81D00000#32, 0x91D00000#32, 0x83D00000#32, 0x93D00000#32, 0x85D00000#32,
   0x95D00000#32, 0x87D00000#32, 0x97D00000#32, 0x89D00000#32, 0x99D00000#32, 0x8BD00000#32,
   0x9BD00000#32, 0x8DD00000#32, 0x9DD00000#32, 0x8FD00000#32, 0x9FD00000#32, 0x81800000#32,
   0x81880000#32, 0x81900000#32, 0x81980000#32, 0x83800000#32, 0x85800000#32].map (0xFFF83FE0#32, ·) ++
  [0x81C82000#32, 0x81D02000#32, 0x91D02000#32, 0x83D02000#32, 0x93D02000#32, 0x85D02000#32,
   0x95D02000#32, 0x87D02000#32, 0x97D02000#32, 0x89D02000#32, 0x99D02000#32, 0x8BD02000#32,
   0x9BD02000#32, 0x8DD02000#32, 0x9DD02000#32, 0x8FD02000#32, 0x9FD02000#32, 0x81802000#32,
   0x81882000#32, 0x81902000#32, 0x81982000#32, 0x83802000#32, 0x85802000#32].map (0xFFF82000#32, ·) ++
  [0x40000000#32].map (0xC0000000#32, ·) ++
  [0x01000000#32].map (0xFFFFFFFF#32, ·) ++
  [0x81400000#32, 0x81480000#32, 0x81500000#32, 0x81580000#32, 0x81404000#32, 0x81408000#32].map (0xC1FFFFFF#32, ·)

/-- The read of a state register (R253). -/
def rdOf : StateReg → Reg → Instr
  | .y => .rdY
  | .psr => .rdPsr
  | .wim => .rdWim
  | .tbr => .rdTbr
  | .base => .rdBase
  | .limite => .rdLimite

/-- The write of a state register (R261). -/
def wrOf : StateReg → Reg → Operand2 → Instr
  | .y => .wrY
  | .psr => .wrPsr
  | .wim => .wrWim
  | .tbr => .wrTbr
  | .base => .wrBase
  | .limite => .wrLimite

/-- The eight loads and stores: how many bytes, what the access answers at the parameters `p`, and the
instruction (R46). -/
def accessRows (p : Params) (rd ro1 : Reg) (o : Operand2) (s : State) : List (Nat × Result × Instr) :=
  [(4, ldWith p rd ro1 o s, .ld rd ro1 o), (4, stWith p rd ro1 o s, .st rd ro1 o),
   (2, lduhWith p rd ro1 o s, .lduh rd ro1 o), (2, ldshWith p rd ro1 o s, .ldsh rd ro1 o),
   (2, sthWith p rd ro1 o s, .sth rd ro1 o), (1, ldubWith p rd ro1 o s, .ldub rd ro1 o),
   (1, ldsbWith p rd ro1 o s, .ldsb rd ro1 o), (1, stbWith p rd ro1 o s, .stb rd ro1 o)]

end Sys2Proof.Machine

/-! ## Encoding -/

/-- Words written out in the spec decode to the instruction the spec writes beside them (in the order
below R250, R110, R92, R97, R126, R163, R176, R202, R204, R205, R217, R229, R255, R267). -/
def Obligations.WrittenWordsDecode : Prop :=
  decode 0x01000000#32 = .ok .nop ∧
  decode 0x03226AF3#32 = .ok (.sethi 1#5 0x226AF3#22) ∧
  decode 0xC6004002#32 = .ok (.ld 3#5 1#5 (.reg 2#5)) ∧
  decode 0xCA23BFFC#32 = .ok (.st 5#5 14#5 (.imm (-4#13))) ∧
  decode 0x86004002#32 = .ok (.add 3#5 1#5 (.reg 2#5)) ∧
  decode 0x8730601F#32 = .ok (.srl 3#5 1#5 (.imm 31#5)) ∧
  decode 0x22BFFFFD#32 = .ok (.be true (-3#22)) ∧
  decode 0x81C7E008#32 = .ok (.jmp 0#5 31#5 (.imm 8#13)) ∧
  decode 0x81CC8000#32 = .ok (.rett 18#5 (.reg 0#5)) ∧
  decode 0x40000006#32 = .ok (.call 6#30) ∧
  decode 0x9DE3BFA0#32 = .ok (.save 14#5 14#5 (.imm (-96#13))) ∧
  decode 0x91D02003#32 = .ok (.ta 0#5 (.imm 3#13)) ∧
  decode 0x87480000#32 = .ok (.rdPsr 3#5) ∧
  decode 0x85804002#32 = .ok (.wrLimite 1#5 (.reg 2#5))

/-- Decoding the word of a well-formed instruction gives the instruction back, for every instruction and
every value of every operand. -/
def Obligations.DecodeAfterEncode : Prop :=
  ∀ i : Instr, WellFormed i = true → decode (encode i) = .ok i

/-- A word that decodes is the word of the well-formed instruction it decodes to, but for bits 12:5 of an
immediate shift, which the decoder ignores and the encoder writes zero (R83). -/
def Obligations.EncodeAfterDecode : Prop :=
  ∀ (w : Word) (i : Instr), decode w = .ok i →
    WellFormed i = true ∧
    encode i =
      if fieldOp w = 0b10#2 ∧ (fieldOp3 w = 0x25#6 ∨ fieldOp3 w = 0x26#6 ∨ fieldOp3 w = 0x27#6) ∧
          fieldI w = 1#1
      then w &&& 0xFFFFE01F#32 else w

/-- A word decodes to an instruction exactly when it matches a row of the opcode table under the row's
mask (R79, R80). -/
def Obligations.DecoderAcceptsExactlyTheTable : Prop :=
  ∀ w : Word, (∃ i, decode w = .ok i) ↔ ∃ r ∈ opcodeRows, w &&& r.1 = r.2

/-! ## The step -/

/-- A step at a state whose bytes at PC decode to `i` is `exec i` of that state; `exec` itself moves the
program counters, and `step` adds nothing around it. -/
def Obligations.StepRunsDecodedInstruction : Prop :=
  ∀ (s : State) (i : Instr), s.errorMode = false → s.annul = false →
    decode (memRead8 s.mem s.pc ++ memRead8 s.mem (s.pc + 1#32) ++ memRead8 s.mem (s.pc + 2#32)
      ++ memRead8 s.mem (s.pc + 3#32)) = .ok i →
    step s = exec i s

/-- A word that matches no row of the table raises `IllegalInstruction`, `tt` = 0x02, with the address of
the word as the saved PC; with ET = 0 the machine enters error mode (R80, R282). -/
def Obligations.IllegalWordTraps : Prop :=
  ∀ s : State, s.errorMode = false → s.annul = false →
    (∀ r ∈ opcodeRows, memRead32 .big s.mem s.pc &&& r.1 ≠ r.2) →
    (s.psr.et = true → ∃ t, step s = .next t ∧ TrapEntered 0x02#8 s t) ∧
    (s.psr.et = false → step s = .next { s with errorMode := true })

/-- R29. While `annul` = 1 a step clears it and advances, whatever stands at PC, with no other effect;
only a relative branch with `a` = 1 that is not taken sets it; trap entry clears it; no instruction reads
it (what an instruction does is the same, but for the bit itself, with the bit set). -/
def Obligations.AnnulBit : Prop :=
  (∀ s : State, s.errorMode = false → s.annul = true →
    step s = .next { s with annul := false, pc := s.npc, npc := s.npc + 4#32 }) ∧
  (∀ (s t : State) (i : Instr), exec i s = .next t → s.annul = false →
    (t.annul = true ↔ annulsNext s.psr.icc i)) ∧
  (∀ (s : State) (tt : BitVec 8), (trapEntry tt s).annul = false) ∧
  (∀ (s t : State) (i : Instr) (b : Bool), exec i s = .next t →
    ∃ c, exec i { s with annul := b } = .next { t with annul := c })

/-- R294: in error mode the step is a fault and there is no next state. -/
def Obligations.ErrorModeIsTerminal : Prop :=
  ∀ s : State, s.errorMode = true → step s = .fault .errorMode

/-! ## Reset and the invariant -/

/-- The values R32 states for reset, with the arguments `RESET_PC` and `MEM`; at `State.reset`, the
default `RESET_PC`, PC is 0. What R32 calls unspecified is not constrained here. -/
def Obligations.ResetValues : Prop :=
  (∀ (resetPc : Word) (mem : Memory),
    let s := State.resetWith resetPc mem
    s.pc = resetPc ∧ s.npc = resetPc + 4#32 ∧ s.psr.s = true ∧ s.psr.et = false ∧
    s.annul = false ∧ s.errorMode = false ∧ s.reg 0#5 = 0#32 ∧ s.mem = mem) ∧
  State.reset.pc = 0x00000000#32

/-- The invariant of a running machine holds after reset. -/
def Obligations.ResetMeetsInvariant : Prop := Inv State.reset

/-- Every step keeps the invariant: memory canonical, PC and nPC multiples of 4 (R19), `G[0]` zero,
nothing to annul in error mode. -/
def Obligations.StepKeepsInvariant : Prop :=
  ∀ s t : State, Inv s → step s = .next t → Inv t

/-! ## Registers and windows -/

/-- R11: `x[0]` is zero in every window, and writing it changes nothing. -/
def Obligations.RegisterZeroIsHardwired : Prop :=
  ∀ (s : State) (v : Word), s.reg 0#5 = 0#32 ∧ s.setReg 0#5 v = s

/-- R13: which cell each visible register is, that a write is read back, and that it changes no other
cell and no other visible register; `x[0]` is zero and writing it changes nothing. -/
def Obligations.VisibleRegistersAreCells : Prop :=
  ∀ (s : State) (r : Reg) (v : Word),
    (r = 0#5 → s.reg r = 0#32 ∧ s.setReg r v = s) ∧
    (1 ≤ r.toNat → r.toNat ≤ 7 → s.g[r.toNat]? = some (s.reg r)) ∧
    (8 ≤ r.toNat → s.w[(16 * s.psr.cwp.toNat + r.toNat - 8) % 512]? = some (s.reg r)) ∧
    (r ≠ 0#5 → (s.setReg r v).reg r = v) ∧ CellsKept s.psr.cwp r s (s.setReg r v) ∧
    (∀ r' : Reg, r' ≠ r → (s.setReg r v).reg r' = s.reg r')

/-- The outs of window `w` are the ins of window `w - 1`, around the ring; a write to a local of one
window changes no visible register of the windows beside it (R14). -/
def Obligations.WindowsOverlap : Prop :=
  ∀ (s : State) (w : BitVec 5) (k : BitVec 3),
    (s.setCwp w).reg (0b01#2 ++ k) = (s.setCwp (w - 1#5)).reg (0b11#2 ++ k) ∧
    ∀ (v : Word) (r : Reg),
      (((s.setCwp w).setReg (0b10#2 ++ k) v).setCwp (w - 1#5)).reg r = (s.setCwp (w - 1#5)).reg r ∧
      (((s.setCwp w).setReg (0b10#2 ++ k) v).setCwp (w + 1#5)).reg r = (s.setCwp (w + 1#5)).reg r

/-! ## Memory -/

/-- R42: the byte at the lowest address is the most significant one, for reads and writes of every width,
and a write of a width is read back at that width; no other byte changes. The settings are the spec's. -/
def Obligations.BigEndianReadAfterWrite : Prop :=
  ∀ (m : Memory) (a : Word), Memory.wf m = true →
    memRead16 settings.byteOrder m a = memRead8 m a ++ memRead8 m (a + 1#32) ∧
    memRead32 settings.byteOrder m a =
      memRead8 m a ++ memRead8 m (a + 1#32) ++ memRead8 m (a + 2#32) ++ memRead8 m (a + 3#32) ∧
    (∀ v : Byte, memRead8 (memWrite8 m a v) a = v ∧
      ∀ b : Word, 1 ≤ (b - a).toNat → memRead8 (memWrite8 m a v) b = memRead8 m b) ∧
    (∀ v : BitVec 16,
      memRead8 (memWrite16 settings.byteOrder m a v) a = v.extractLsb' 8 8 ∧
      memRead8 (memWrite16 settings.byteOrder m a v) (a + 1#32) = v.extractLsb' 0 8 ∧
      memRead16 settings.byteOrder (memWrite16 settings.byteOrder m a v) a = v ∧
      ∀ b : Word, 2 ≤ (b - a).toNat →
        memRead8 (memWrite16 settings.byteOrder m a v) b = memRead8 m b) ∧
    (∀ v : Word,
      memRead8 (memWrite32 settings.byteOrder m a v) a = v.extractLsb' 24 8 ∧
      memRead8 (memWrite32 settings.byteOrder m a v) (a + 1#32) = v.extractLsb' 16 8 ∧
      memRead8 (memWrite32 settings.byteOrder m a v) (a + 2#32) = v.extractLsb' 8 8 ∧
      memRead8 (memWrite32 settings.byteOrder m a v) (a + 3#32) = v.extractLsb' 0 8 ∧
      memRead32 settings.byteOrder (memWrite32 settings.byteOrder m a v) a = v ∧
      ∀ b : Word, 4 ≤ (b - a).toNat →
        memRead8 (memWrite32 settings.byteOrder m a v) b = memRead8 m b)

/-- The five loads complete at every address that meets their alignment, put the bytes at
`dir = x[ro1] + operand2` in `rd`, extended as R46 says, and change nothing else (R91 to R96, R100). -/
def Obligations.LoadsComplete : Prop :=
  ∀ (rd ro1 : Reg) (o : Operand2) (s : State),
    let a := s.reg ro1 + s.operand2 o
    let b0 := memRead8 s.mem a
    let b1 := memRead8 s.mem (a + 1#32)
    let b2 := memRead8 s.mem (a + 2#32)
    let b3 := memRead8 s.mem (a + 3#32)
    (a.toNat % 4 = 0 →
      ∃ t, exec (.ld rd ro1 o) s = .next t ∧ OnlyWrites rd (b0 ++ b1 ++ b2 ++ b3) s t) ∧
    (a.toNat % 2 = 0 →
      (∃ t, exec (.lduh rd ro1 o) s = .next t ∧ OnlyWrites rd ((b0 ++ b1).setWidth 32) s t) ∧
      (∃ t, exec (.ldsh rd ro1 o) s = .next t ∧ OnlyWrites rd ((b0 ++ b1).signExtend 32) s t)) ∧
    (∃ t, exec (.ldub rd ro1 o) s = .next t ∧ OnlyWrites rd (b0.setWidth 32) s t) ∧
    (∃ t, exec (.ldsb rd ro1 o) s = .next t ∧ OnlyWrites rd (b0.signExtend 32) s t)

/-- The three stores complete at every address that meets their alignment, store the low-order bits of
`x[rd]` at `dir = x[ro1] + operand2`, most significant byte first, and change nothing else (R91, R97 to
R100). -/
def Obligations.StoresComplete : Prop :=
  ∀ (rd ro1 : Reg) (o : Operand2) (s : State), Memory.wf s.mem = true →
    let a := s.reg ro1 + s.operand2 o
    let v := s.reg rd
    let rest := fun t : State => AllCellsKept s t ∧ t.psr = s.psr ∧ t.y = s.y ∧ SpecialsKept s t ∧
      Advanced s t
    (a.toNat % 4 = 0 → ∃ t, exec (.st rd ro1 o) s = .next t ∧ rest t ∧
      memRead8 t.mem a = v.extractLsb' 24 8 ∧ memRead8 t.mem (a + 1#32) = v.extractLsb' 16 8 ∧
      memRead8 t.mem (a + 2#32) = v.extractLsb' 8 8 ∧ memRead8 t.mem (a + 3#32) = v.extractLsb' 0 8 ∧
      MemoryKeptOutside a 4 s t) ∧
    (a.toNat % 2 = 0 → ∃ t, exec (.sth rd ro1 o) s = .next t ∧ rest t ∧
      memRead8 t.mem a = v.extractLsb' 8 8 ∧ memRead8 t.mem (a + 1#32) = v.extractLsb' 0 8 ∧
      MemoryKeptOutside a 2 s t) ∧
    (∃ t, exec (.stb rd ro1 o) s = .next t ∧ rest t ∧
      memRead8 t.mem a = v.extractLsb' 0 8 ∧ MemoryKeptOutside a 1 s t)

/-- A word access at an address that is not a multiple of 4, or a half-word access at an odd one, raises
`MemAddressNotAligned` and does nothing else; so do `jmp` and `rett` with such a target (R43, R44, R200,
R203, R283). With ET = 0 that is error mode. -/
def Obligations.MisalignedAddressTraps : Prop :=
  ∀ (rd ro1 : Reg) (o : Operand2) (s : State) (i : Instr),
    let a := s.reg ro1 + s.operand2 o
    ((a.toNat % 4 ≠ 0 ∧
        i ∈ [.ld rd ro1 o, .st rd ro1 o, .jmp rd ro1 o, .rett ro1 o]) ∨
      (a.toNat % 2 ≠ 0 ∧ i ∈ [.lduh rd ro1 o, .ldsh rd ro1 o, .sth rd ro1 o])) →
    (s.psr.et = true → ∃ t, exec i s = .next t ∧ TrapEntered 0x07#8 s t) ∧
    (s.psr.et = false → exec i s = .next { s with errorMode := true })

/-! ## `sethi`, `nop`, logic, addition and subtraction -/

/-- `sethi` puts `const22` in bits 31:10 of `rd` and zeros below; `nop` only advances; neither changes
anything else (R110, R111, R250). -/
def Obligations.SethiAndNop : Prop :=
  ∀ (rd : Reg) (c : BitVec 22) (s : State),
    (∃ t v, exec (.sethi rd c) s = .next t ∧ OnlyWrites rd v s t ∧ v.toNat = c.toNat * 1024) ∧
    (∃ t, exec .nop s = .next t ∧ OnlyMovesPc s.npc (s.npc + 4#32) s t)

/-- Operand 2 (R72): a register; the immediate sign-extended, -4096 to 4095; for the unsigned
multiplications and divisions zero-extended, 0 to 8191. -/
def Obligations.OperandExtensions : Prop :=
  ∀ (s : State) (r : Reg) (c : BitVec 13),
    s.operand2 (.reg r) = s.reg r ∧ s.operand2U (.reg r) = s.reg r ∧
    (s.operand2 (.imm c)).toInt = c.toInt ∧ -4096 ≤ c.toInt ∧ c.toInt ≤ 4095 ∧
    (s.operand2U (.imm c)).toNat = c.toNat ∧ c.toNat ≤ 8191

/-- The logical instructions without `cc` (R128, R130, R132, R134, R146, R148). -/
def Obligations.LogicResults : Prop :=
  ∀ (rd ro1 : Reg) (o : Operand2) (s : State),
    ∀ row ∈ logicRows rd ro1 o (s.reg ro1) (s.operand2 o),
      ∃ t, exec row.1 s = .next t ∧ OnlyWrites rd row.2 s t

/-- The logical instructions with `cc`: the result, and N from its bit 31, Z where it is zero, V and C
cleared (R116, R129, R131, R133, R135, R147, R149). -/
def Obligations.LogicFlags : Prop :=
  ∀ (rd ro1 : Reg) (o : Operand2) (s : State),
    ∀ row ∈ logicCcRows rd ro1 o (s.reg ro1) (s.operand2 o),
      ∃ t, exec row.1 s = .next t ∧
        Effect rd row.2 s.y
          { n := row.2.getLsbD 31, z := decide (row.2.toNat = 0), v := false, c := false } s t

/-- `add` and `sub`: the result modulo 2^32, no flag (R126, R144). -/
def Obligations.AddAndSubResults : Prop :=
  ∀ (rd ro1 : Reg) (o : Operand2) (s : State),
    let a := s.reg ro1
    let b := s.operand2 o
    (∃ t v, exec (.add rd ro1 o) s = .next t ∧ OnlyWrites rd v s t ∧
      v.toNat = (a.toNat + b.toNat) % 2 ^ 32) ∧
    (∃ t v, exec (.sub rd ro1 o) s = .next t ∧ OnlyWrites rd v s t ∧
      (v.toNat : Int) = ((a.toNat : Int) - b.toNat) % 2 ^ 32)

/-- `addcc` (R117, R127): the sum modulo 2^32, and the flags with V in both forms the rule gives. -/
def Obligations.AddccFlags : Prop :=
  ∀ (rd ro1 : Reg) (o : Operand2) (s : State),
    let a := s.reg ro1
    let b := s.operand2 o
    let r := a + b
    ∃ t, exec (.addcc rd ro1 o) s = .next t ∧ Effect rd r s.y t.psr.icc s t ∧
      t.psr.icc.n = r.getLsbD 31 ∧ (t.psr.icc.z = true ↔ r.toNat = 0) ∧
      (t.psr.icc.c = true ↔ 2 ^ 32 ≤ a.toNat + b.toNat) ∧
      (t.psr.icc.v = true ↔ ¬ (-2 ^ 31 ≤ a.toInt + b.toInt ∧ a.toInt + b.toInt ≤ 2 ^ 31 - 1)) ∧
      t.psr.icc.v = (a.getLsbD 31 == b.getLsbD 31 && r.getLsbD 31 != a.getLsbD 31)

/-- `subcc` (R118, R145): the difference modulo 2^32, and the flags with C the borrow and V in both forms
the rule gives. -/
def Obligations.SubccFlags : Prop :=
  ∀ (rd ro1 : Reg) (o : Operand2) (s : State),
    let a := s.reg ro1
    let b := s.operand2 o
    let r := a - b
    ∃ t, exec (.subcc rd ro1 o) s = .next t ∧ Effect rd r s.y t.psr.icc s t ∧
      t.psr.icc.n = r.getLsbD 31 ∧ (t.psr.icc.z = true ↔ r.toNat = 0) ∧
      (t.psr.icc.c = true ↔ a.toNat < b.toNat) ∧
      (t.psr.icc.v = true ↔ ¬ (-2 ^ 31 ≤ a.toInt - b.toInt ∧ a.toInt - b.toInt ≤ 2 ^ 31 - 1)) ∧
      t.psr.icc.v = (a.getLsbD 31 != b.getLsbD 31 && r.getLsbD 31 != a.getLsbD 31)

/-- After `subcc` of `a` and `b` the branch that follows compares them, signed and unsigned, as its name
says (R172, R184). -/
def Obligations.BranchesCompareAfterSubcc : Prop :=
  ∀ (rd ro1 : Reg) (o : Operand2) (s t : State) (d : BitVec 22), exec (.subcc rd ro1 o) s = .next t →
    let a := s.reg ro1
    let b := s.operand2 o
    ∀ row ∈ ([(.be false d, decide (a = b)), (.bne false d, decide (a ≠ b)),
        (.bl false d, decide (a.toInt < b.toInt)), (.bge false d, decide (b.toInt ≤ a.toInt)),
        (.ble false d, decide (a.toInt ≤ b.toInt)), (.bg false d, decide (b.toInt < a.toInt)),
        (.bcs false d, decide (a.toNat < b.toNat)), (.bcc false d, decide (b.toNat ≤ a.toNat)),
        (.bleu false d, decide (a.toNat ≤ b.toNat)), (.bgu false d, decide (b.toNat < a.toNat))] :
        List (Instr × Bool)),
      ∃ u, exec row.1 t = .next u ∧ u.pc = t.npc ∧
        u.npc = if row.2 then t.npc + 4#32 * d.signExtend 32 else t.npc + 4#32

/-! ## Multiplication and division -/

/-- The product (R119): `Y :: x[rd]` is the exact 64-bit product, unsigned or signed; Y is written even
with `rd` = 0. With `cc` the flags look at the low word alone (R120); without, none changes. -/
def Obligations.Products : Prop :=
  ∀ (rd ro1 : Reg) (o : Operand2) (s : State),
    let a := s.reg ro1
    let low := fun r : Word =>
      ({ n := r.getLsbD 31, z := decide (r.toNat = 0), v := false, c := false } : Icc)
    (∃ t v y, exec (.umul rd ro1 o) s = .next t ∧ Effect rd v y s.psr.icc s t ∧
      y.toNat * 2 ^ 32 + v.toNat = a.toNat * (s.operand2U o).toNat) ∧
    (∃ t v y, exec (.umulcc rd ro1 o) s = .next t ∧ Effect rd v y (low v) s t ∧
      y.toNat * 2 ^ 32 + v.toNat = a.toNat * (s.operand2U o).toNat) ∧
    (∃ t v y, exec (.smul rd ro1 o) s = .next t ∧ Effect rd v y s.psr.icc s t ∧
      y.toInt * 2 ^ 32 + v.toNat = a.toInt * (s.operand2 o).toInt) ∧
    (∃ t v y, exec (.smulcc rd ro1 o) s = .next t ∧ Effect rd v y (low v) s t ∧
      y.toInt * 2 ^ 32 + v.toNat = a.toInt * (s.operand2 o).toInt)

/-- `udiv` and `udivcc` where the quotient fits, that is Y below the divisor (R121, R123): the quotient
goes to `rd` and the remainder to Y, and with `cc` the flags are those of R124. -/
def Obligations.UnsignedQuotients : Prop :=
  ∀ (rd ro1 : Reg) (o : Operand2) (s : State),
    let a := s.reg ro1
    let b := s.operand2U o
    s.y.toNat < b.toNat →
    ∃ q r : Word, s.y.toNat * 2 ^ 32 + a.toNat = q.toNat * b.toNat + r.toNat ∧ r.toNat < b.toNat ∧
      (∃ t, exec (.udiv rd ro1 o) s = .next t ∧ Effect rd q r s.psr.icc s t) ∧
      (∃ t, exec (.udivcc rd ro1 o) s = .next t ∧ Effect rd q r
        { n := q.getLsbD 31, z := decide (q.toNat = 0), v := false, c := false } s t)

/-- `sdiv` and `sdivcc` where the quotient fits: it is rounded toward zero, and the remainder is zero or
has the sign of the dividend and is smaller than the divisor (R121); with `cc` the flags are those of
R124. -/
def Obligations.SignedQuotients : Prop :=
  ∀ (rd ro1 : Reg) (o : Operand2) (s : State) (qi ri : Int),
    let d : Int := s.y.toInt * 2 ^ 32 + (s.reg ro1).toNat
    let b := (s.operand2 o).toInt
    b ≠ 0 → d = qi * b + ri → ri.natAbs < b.natAbs → (0 ≤ d → 0 ≤ ri) → (d ≤ 0 → ri ≤ 0) →
    -2 ^ 31 ≤ qi → qi ≤ 2 ^ 31 - 1 →
    ∃ q r : Word, q.toInt = qi ∧ r.toInt = ri ∧
      (∃ t, exec (.sdiv rd ro1 o) s = .next t ∧ Effect rd q r s.psr.icc s t) ∧
      (∃ t, exec (.sdivcc rd ro1 o) s = .next t ∧ Effect rd q r
        { n := q.getLsbD 31, z := decide (q.toNat = 0), v := false, c := false } s t)

/-- A division by zero raises `DivisionByZero`, `tt` = 0x2A, and writes nothing else (R122, R284). -/
def Obligations.DivisionByZeroTraps : Prop :=
  ∀ (rd ro1 : Reg) (o : Operand2) (s : State) (i : Instr),
    ((s.operand2U o = 0#32 ∧ i ∈ [.udiv rd ro1 o, .udivcc rd ro1 o]) ∨
      (s.operand2 o = 0#32 ∧ i ∈ [.sdiv rd ro1 o, .sdivcc rd ro1 o])) →
    (s.psr.et = true → ∃ t, exec i s = .next t ∧ TrapEntered 0x2A#8 s t) ∧
    (s.psr.et = false → exec i s = .next { s with errorMode := true })

/-- A quotient that does not fit is no exception: the instruction writes whatever `DIV_OVERFLOW` gives to
`rd`, Y and, for `cc`, the flags, and completes (R123, D11; log entry 1). -/
def Obligations.QuotientOverflowIsOpen : Prop :=
  ∀ (rd ro1 : Reg) (o : Operand2) (s : State),
    let a := s.reg ro1
    let u := Config.divOverflow false s.y a (s.operand2U o)
    let v := Config.divOverflow true s.y a (s.operand2 o)
    let d : Int := s.y.toInt * 2 ^ 32 + a.toNat
    let q := d.tdiv (s.operand2 o).toInt
    (s.operand2U o ≠ 0#32 → (s.operand2U o).toNat ≤ s.y.toNat →
      (∃ t, exec (.udiv rd ro1 o) s = .next t ∧ Effect rd u.quot u.rem s.psr.icc s t) ∧
      (∃ t, exec (.udivcc rd ro1 o) s = .next t ∧
        Effect rd u.quot u.rem { n := u.n, z := u.z, v := u.v, c := u.c } s t)) ∧
    (s.operand2 o ≠ 0#32 → (2 ^ 31 - 1 < q ∨ q < -2 ^ 31) →
      (∃ t, exec (.sdiv rd ro1 o) s = .next t ∧ Effect rd v.quot v.rem s.psr.icc s t) ∧
      (∃ t, exec (.sdivcc rd ro1 o) s = .next t ∧
        Effect rd v.quot v.rem { n := v.n, z := v.z, v := v.v, c := v.c } s t))

/-! ## Shifts -/

/-- The shifts, by the low five bits of a register or by `const5`, 0 to 31: `sll` and `srl` fill with
zeros, `sra` with the sign; no flag changes (R160 to R163). -/
def Obligations.ShiftResults : Prop :=
  ∀ (rd ro1 : Reg) (o : ShiftCount) (s : State),
    let a := s.reg ro1
    let n := match o with
      | .reg ro2 => (s.reg ro2).toNat % 32
      | .imm const5 => const5.toNat
    n < 32 ∧
    (∃ t v, exec (.sll rd ro1 o) s = .next t ∧ OnlyWrites rd v s t ∧
      v.toNat = a.toNat * 2 ^ n % 2 ^ 32) ∧
    (∃ t v, exec (.srl rd ro1 o) s = .next t ∧ OnlyWrites rd v s t ∧ v.toNat = a.toNat / 2 ^ n) ∧
    (∃ t v, exec (.sra rd ro1 o) s = .next t ∧ OnlyWrites rd v s t ∧
      v.toInt = a.toInt.fdiv (2 ^ n))

/-! ## Control transfer -/

/-- Every relative branch: PC receives nPC; nPC receives nPC + 4 * disp22 where the branch's condition
holds and nPC + 4 where not; nothing else changes but the annul bit, which a branch with `a` that is not
taken sets (R170, R171, R172). -/
def Obligations.BranchesTransfer : Prop :=
  ∀ (a : Bool) (d : BitVec 22) (s : State), ∀ row ∈ branchRows a d s.psr.icc,
    ∃ t, exec row.1 s = .next t ∧
      OnlyMovesPc s.npc (if row.2 then s.npc + 4#32 * d.signExtend 32 else s.npc + 4#32)
        s { t with annul := s.annul } ∧
      t.annul = (if a && !row.2 then true else s.annul)

/-- `BA_A_ANNULS` (R171): where the parameter is true, `ba,a` also annuls its delay instruction; no other
taken branch does, and where it is false none does. -/
def Obligations.BaAnnulParameter : Prop :=
  ∀ (p : Params) (cond : BitVec 4) (a : Bool) (d : BitVec 22) (s t : State),
    branchWith p cond a d s = .next t → s.annul = false → condTaken cond s.psr.icc = true →
    (t.annul = true ↔ p.baAnnuls = true ∧ a = true ∧ cond = 8#4)

/-- `jmp` to a multiple of 4: `rd` receives the target, PC receives nPC and nPC the target (R200, R201). -/
def Obligations.JmpCompletes : Prop :=
  ∀ (rd ro1 : Reg) (o : Operand2) (s : State),
    let dir := s.reg ro1 + s.operand2 o
    dir.toNat % 4 = 0 →
    ∃ t, exec (.jmp rd ro1 o) s = .next t ∧ WroteReg rd dir s t ∧ t.pc = s.npc ∧ t.npc = dir ∧
      t.psr = s.psr ∧ t.y = s.y ∧ SpecialsKept s t ∧ MemoryKept s t

/-- `call`: `%o7` receives the address of the `call`, PC receives nPC and nPC receives
nPC + 4 * disp30, modulo 2^32 (R205, R206). -/
def Obligations.CallCompletes : Prop :=
  ∀ (disp30 : BitVec 30) (s : State),
    ∃ t, exec (.call disp30) s = .next t ∧ WroteReg 15#5 s.pc s t ∧ t.pc = s.npc ∧
      t.npc.toNat = (s.npc.toNat + 4 * disp30.toNat) % 2 ^ 32 ∧
      t.psr = s.psr ∧ t.y = s.y ∧ SpecialsKept s t ∧ MemoryKept s t

/-- `rett` to a multiple of 4, in either mode and whatever ET is: CWP moves up one window modulo 32, ET is
set, S receives PS, PC receives nPC and nPC the target, which is computed in the old window (R203, R204). -/
def Obligations.RettCompletes : Prop :=
  ∀ (ro1 : Reg) (o : Operand2) (s : State),
    let dir := s.reg ro1 + s.operand2 o
    dir.toNat % 4 = 0 →
    ∃ t, exec (.rett ro1 o) s = .next t ∧ t.psr.cwp.toNat = (s.psr.cwp.toNat + 1) % 32 ∧
      t.psr.et = true ∧ t.psr.s = s.psr.ps ∧ t.psr.ps = s.psr.ps ∧ t.psr.icc = s.psr.icc ∧
      t.pc = s.npc ∧ t.npc = dir ∧ AllCellsKept s t ∧ t.y = s.y ∧ SpecialsKept s t ∧ MemoryKept s t

/-- `save` and `restore`: the sum of operands read in the old window goes to `rd` of the new one, a window
down or up modulo 32; flags and everything else stay (R215 to R217). -/
def Obligations.SaveAndRestoreComplete : Prop :=
  ∀ (rd ro1 : Reg) (o : Operand2) (s : State),
    let sum := s.reg ro1 + s.operand2 o
    let moved := fun t : State => WroteReg rd sum s t ∧ t.psr = { s.psr with cwp := t.psr.cwp } ∧
      t.y = s.y ∧ SpecialsKept s t ∧ MemoryKept s t ∧ Advanced s t
    (∃ t, exec (.save rd ro1 o) s = .next t ∧ moved t ∧
      t.psr.cwp.toNat = (s.psr.cwp.toNat + 31) % 32) ∧
    (∃ t, exec (.restore rd ro1 o) s = .next t ∧ moved t ∧
      t.psr.cwp.toNat = (s.psr.cwp.toNat + 1) % 32)

/-- `save` followed by `restore` returns CWP to its value and changes no cell of any window but the two
targets, the one in the window below and the one in the window left and entered again (R219). -/
def Obligations.RestoreAfterSave : Prop :=
  ∀ (rd ro1 rd' ro1' : Reg) (o o' : Operand2) (s : State),
    ∃ t u, exec (.save rd ro1 o) s = .next t ∧ exec (.restore rd' ro1' o') t = .next u ∧
      CellsKeptBut (s.psr.cwp - 1#5) rd s.psr.cwp rd' s u ∧
      u.psr = s.psr ∧ u.y = s.y ∧ SpecialsKept s u ∧ MemoryKept s u

/-- `restore` followed by `save`: the same, the first target in the window above (R219). -/
def Obligations.SaveAfterRestore : Prop :=
  ∀ (rd ro1 rd' ro1' : Reg) (o o' : Operand2) (s : State),
    ∃ t u, exec (.restore rd ro1 o) s = .next t ∧ exec (.save rd' ro1' o') t = .next u ∧
      CellsKeptBut (s.psr.cwp + 1#5) rd s.psr.cwp rd' s u ∧
      u.psr = s.psr ∧ u.y = s.y ∧ SpecialsKept s u ∧ MemoryKept s u

/-! ## Trap instructions, trap entry and return -/

/-- A trap instruction whose condition holds, with ET = 1, enters the trap `0x80 + n`, where `n` is bits
6:0 of `x[ro1] + operand2` (R226, R285, R290). -/
def Obligations.TakenTrapsEnter : Prop :=
  ∀ (ro1 : Reg) (o : Operand2) (s : State), s.psr.et = true →
    ∀ row ∈ trapRows ro1 o s.psr.icc, row.2 = true →
      ∃ t, exec row.1 s = .next t ∧
        TrapEntered (0x80#8 + BitVec.ofNat 8 ((s.reg ro1 + s.operand2 o).toNat % 128)) s t

/-- A trap instruction whose condition does not hold only advances (R227); one whose condition holds, with
ET = 0, only sets error mode (R244 (a), R293). -/
def Obligations.OtherTrapInstructions : Prop :=
  ∀ (ro1 : Reg) (o : Operand2) (s : State), ∀ row ∈ trapRows ro1 o s.psr.icc,
    (row.2 = false →
      ∃ t, exec row.1 s = .next t ∧ OnlyMovesPc s.npc (s.npc + 4#32) s t) ∧
    (row.2 = true → s.psr.et = false → exec row.1 s = .next { s with errorMode := true })

/-- Taking an exception with ET = 1 is trap entry with the exception's trap type, and nothing else changes
(R281, R290, R291). -/
def Obligations.ExceptionEntersTrap : Prop :=
  ∀ s : State, s.psr.et = true →
    ∀ row ∈ ([(.accessFaultFetch, 0x01#8), (.illegalInstruction, 0x02#8),
        (.privilegedInstruction, 0x03#8), (.windowOverflow, 0x05#8), (.windowUnderflow, 0x06#8),
        (.accessFaultData, 0x09#8), (.divisionByZero, 0x2A#8)] : List (Exc × BitVec 8)),
      TrapEntered row.2 s (takeTrap row.1 s) ∧
      (∀ dir, TrapEntered 0x07#8 s (takeTrap (.memAddressNotAligned dir) s)) ∧
      (∀ n, TrapEntered (0b1#1 ++ n) s (takeTrap (.trapInstruction n) s))

/-- R293: an exception while ET = 0, a taken trap instruction included, sets `error_mode` and changes
nothing else. -/
def Obligations.ExceptionEntersErrorMode : Prop :=
  (∀ (e : Exc) (s : State), s.psr.et = false → takeTrap e s = { s with errorMode := true }) ∧
  (∀ (ro1 : Reg) (o : Operand2) (s : State), s.psr.et = false →
    exec (.ta ro1 o) s = .next { s with errorMode := true })

/-- The return pair of R204, `jmp %g0, %g0, %l1` and `rett %g0, %g0, %l2`, run at once after trap entry,
goes back to the trapped instruction: its PC, its nPC, its window, its mode and ET; only PS, `tt`, and the
locals `%l1`, `%l2` of the handler's window tell of the trap. -/
def Obligations.ReturnPairUndoesTrapEntry : Prop :=
  decode 0x81C44000#32 = .ok (.jmp 0#5 17#5 (.reg 0#5)) ∧
  decode 0x81CC8000#32 = .ok (.rett 18#5 (.reg 0#5)) ∧
  ∀ (e : Exc) (s : State), s.psr.et = true → Aligned4 s.pc → Aligned4 s.npc →
    ∃ u v, exec (.jmp 0#5 17#5 (.reg 0#5)) (takeTrap e s) = .next u ∧
      exec (.rett 18#5 (.reg 0#5)) u = .next v ∧
      v.pc = s.pc ∧ v.npc = s.npc ∧ v.psr = { s.psr with ps := s.psr.s } ∧
      v.tbr = { s.tbr with tt := trapType e } ∧ v.g = s.g ∧
      (∀ k : Fin 512, k ≠ windowIndex (s.psr.cwp - 1#5) 17#5 →
        k ≠ windowIndex (s.psr.cwp - 1#5) 18#5 → v.w[k] = s.w[k]) ∧
      v.y = s.y ∧ v.wim = s.wim ∧ v.base = s.base ∧ v.limite = s.limite ∧ v.annul = false ∧
      v.errorMode = s.errorMode ∧ MemoryKept s v

/-! ## State registers -/

/-- The six reads: `rd` receives the register's value or image, in either mode, and nothing else changes
(R253 to R259, R270). -/
def Obligations.StateRegisterReads : Prop :=
  ∀ (rd : Reg) (s : State),
    (∃ t, exec (.rdY rd) s = .next t ∧ OnlyWrites rd s.y s t) ∧
    (∃ t v, exec (.rdPsr rd) s = .next t ∧ OnlyWrites rd v s t ∧
      v.toNat = s.psr.icc.n.toNat * 2 ^ 23 + s.psr.icc.z.toNat * 2 ^ 22 + s.psr.icc.v.toNat * 2 ^ 21
        + s.psr.icc.c.toNat * 2 ^ 20 + s.psr.s.toNat * 2 ^ 7 + s.psr.ps.toNat * 2 ^ 6
        + s.psr.et.toNat * 2 ^ 5 + s.psr.cwp.toNat) ∧
    (∃ t, exec (.rdWim rd) s = .next t ∧ OnlyWrites rd s.wim s t) ∧
    (∃ t v, exec (.rdTbr rd) s = .next t ∧ OnlyWrites rd v s t ∧
      v.toNat = s.tbr.tba.toNat * 2 ^ 12 + s.tbr.tt.toNat * 2 ^ 4) ∧
    (∃ t, exec (.rdBase rd) s = .next t ∧ OnlyWrites rd s.base s t) ∧
    (∃ t, exec (.rdLimite rd) s = .next t ∧ OnlyWrites rd s.limite s t)

/-- `wr` of `%y`, `%wim`, `%base` and `%limite`: the register receives `x[ro1] xor operand2`, whole, in
either mode, and nothing else changes (R261, R262, R264, R266, R267, R270). -/
def Obligations.WholeRegisterWrites : Prop :=
  ∀ (ro1 : Reg) (o : Operand2) (s : State),
    let v := s.reg ro1 ^^^ s.operand2 o
    let kept := fun t : State => AllCellsKept s t ∧ t.psr = s.psr ∧ t.tbr = s.tbr ∧
      t.annul = s.annul ∧ t.errorMode = s.errorMode ∧ MemoryKept s t ∧ Advanced s t
    (∃ t, exec (.wrY ro1 o) s = .next t ∧ kept t ∧
      t.y = v ∧ t.wim = s.wim ∧ t.base = s.base ∧ t.limite = s.limite) ∧
    (∃ t, exec (.wrWim ro1 o) s = .next t ∧ kept t ∧
      t.y = s.y ∧ t.wim = v ∧ t.base = s.base ∧ t.limite = s.limite) ∧
    (∃ t, exec (.wrBase ro1 o) s = .next t ∧ kept t ∧
      t.y = s.y ∧ t.wim = s.wim ∧ t.base = v ∧ t.limite = s.limite) ∧
    (∃ t, exec (.wrLimite ro1 o) s = .next t ∧ kept t ∧
      t.y = s.y ∧ t.wim = s.wim ∧ t.base = s.base ∧ t.limite = v)

/-- `wr %psr` writes all eight fields from their bits of the value and nothing else; `rd %psr` then reads
the value with every other bit zero. `wr %tbr` writes TBA and keeps `tt`; `rd %tbr` then reads TBA, `tt`
and zeros (R263, R265, R269). -/
def Obligations.PsrAndTbrWrites : Prop :=
  ∀ (ro1 : Reg) (o : Operand2) (s : State) (rd : Reg),
    let v := s.reg ro1 ^^^ s.operand2 o
    (∃ t u, exec (.wrPsr ro1 o) s = .next t ∧
      t.psr = { icc := { n := v.getLsbD 23, z := v.getLsbD 22, v := v.getLsbD 21, c := v.getLsbD 20 },
                s := v.getLsbD 7, ps := v.getLsbD 6, et := v.getLsbD 5,
                cwp := v.extractLsb' 0 5 } ∧
      AllCellsKept s t ∧ t.y = s.y ∧ SpecialsKept s t ∧ MemoryKept s t ∧ Advanced s t ∧
      exec (.rdPsr rd) t = .next u ∧ OnlyWrites rd (v &&& 0x00F000FF#32) t u) ∧
    (∃ t u, exec (.wrTbr ro1 o) s = .next t ∧
      t.tbr = { tba := v.extractLsb' 12 20, tt := s.tbr.tt } ∧
      AllCellsKept s t ∧ t.psr = s.psr ∧ t.y = s.y ∧ t.wim = s.wim ∧ t.base = s.base ∧
      t.limite = s.limite ∧ t.annul = s.annul ∧ t.errorMode = s.errorMode ∧ MemoryKept s t ∧
      Advanced s t ∧
      exec (.rdTbr rd) t = .next u ∧
      OnlyWrites rd ((v &&& 0xFFFFF000#32) ||| (s.tbr.tt.setWidth 32 <<< 4)) t u)

/-! ## Which instruction may change what -/

/-- CWP is changed only by `save`, `restore`, `rett`, `wr %psr` and trap entry (R14). -/
def Obligations.OnlyTheseMoveTheWindow : Prop :=
  ∀ s t : State, step s = .next t → t.psr.cwp ≠ s.psr.cwp →
    EnteredTrap s t ∨ ∃ i, Executes s i ∧ movesWindow i = true

/-- The condition codes are changed only by the twelve `cc` instructions and `wr %psr`; trap entry keeps
them (R21). -/
def Obligations.OnlyTheseWriteFlags : Prop :=
  ∀ s t : State, step s = .next t → t.psr.icc ≠ s.psr.icc → ∃ i, Executes s i ∧ writesIcc i = true

/-- Memory is changed only by `st`, `sth` and `stb`, and only in the bytes at `dir` (R41, R47). -/
def Obligations.OnlyStoresWriteMemory : Prop :=
  ∀ (s t : State) (b : Word), step s = .next t → memRead8 t.mem b ≠ memRead8 s.mem b →
    ∃ rd ro1 o, let d := (b - (s.reg ro1 + s.operand2 o)).toNat
      (Executes s (.st rd ro1 o) ∧ d < 4) ∨ (Executes s (.sth rd ro1 o) ∧ d < 2) ∨
      (Executes s (.stb rd ro1 o) ∧ d < 1)

/-- Y is changed only by the multiplications, the divisions and `wr %y` (R22); WIM, BASE and LIMITE only
by their `wr` (R25, R27, R28); TBA only by `wr %tbr` and `tt` only by trap entry (R26). -/
def Obligations.OnlyTheseWriteStateRegisters : Prop :=
  ∀ s t : State, step s = .next t →
    (t.y ≠ s.y → ∃ i, Executes s i ∧ writesY i = true) ∧
    (t.wim ≠ s.wim → ∃ ro1 o, Executes s (.wrWim ro1 o)) ∧
    (t.base ≠ s.base → ∃ ro1 o, Executes s (.wrBase ro1 o)) ∧
    (t.limite ≠ s.limite → ∃ ro1 o, Executes s (.wrLimite ro1 o)) ∧
    (t.tbr.tba ≠ s.tbr.tba → ∃ ro1 o, Executes s (.wrTbr ro1 o)) ∧
    (t.tbr.tt ≠ s.tbr.tt → EnteredTrap s t)

/-- Supervisor mode is entered from user mode only by trap entry, by `wr %psr`, or by `rett` with PS = 1
(R203, R204 (d), R301; log entry 8), and left only by `rett` with PS = 0 or by `wr %psr`. -/
def Obligations.ModeChanges : Prop :=
  ∀ s t : State, step s = .next t → t.psr.s ≠ s.psr.s →
    (EnteredTrap s t ∧ t.psr.s = true) ∨ (∃ ro1 o, Executes s (.wrPsr ro1 o)) ∨
    (∃ ro1 o, Executes s (.rett ro1 o) ∧ t.psr.s = s.psr.ps)

/-- A step enters error mode only from ET = 0, and then changes nothing else (R280, R293). -/
def Obligations.ErrorModeNeedsTrapsDisabled : Prop :=
  ∀ s t : State, step s = .next t → t.errorMode = true →
    s.psr.et = false ∧ t = { s with errorMode := true }

/-! ## The parameters the spec leaves to the model -/

/-- R287. With `WIM_CHECK` = false WIM is never consulted. With `WIM_CHECK` = true `save` raises
`WindowOverflow` (`tt` 0x05), and `restore` and `rett` raise `WindowUnderflow` (`tt` 0x06), exactly where
the WIM bit of the new window is 1; trap entry does not consult WIM. -/
def Obligations.WindowCheckParameter : Prop :=
  trapType .windowOverflow = 0x05#8 ∧ trapType .windowUnderflow = 0x06#8 ∧
  (∀ (p : Params) (s : State) (rd ro1 : Reg) (o : Operand2), p.privCheck = false →
    let down := s.wim.getLsbD ((s.psr.cwp.toNat + 31) % 32)
    let up := s.wim.getLsbD ((s.psr.cwp.toNat + 1) % 32)
    (p.wimCheck = true → down = true →
      saveWith p rd ro1 o s = .next (takeTrap .windowOverflow s)) ∧
    (p.wimCheck = true → up = true →
      restoreWith p rd ro1 o s = .next (takeTrap .windowUnderflow s) ∧
      rettWith p ro1 o s = .next (takeTrap .windowUnderflow s)) ∧
    (p.wimCheck = false ∨ down = false → saveWith p rd ro1 o s = exec (.save rd ro1 o) s) ∧
    (p.wimCheck = false ∨ up = false →
      restoreWith p rd ro1 o s = exec (.restore rd ro1 o) s ∧
      rettWith p ro1 o s = exec (.rett ro1 o) s)) ∧
  (∀ (e : Exc) (s : State) (w : Word), takeTrap e { s with wim := w } = { takeTrap e s with wim := w })

/-- With `PRIV_CHECK` = true and S = 0, `rett` and the read and the write of every state register but `%y`
raise `PrivilegedInstruction` before any other check. With S = 1 or `PRIV_CHECK` = false none does, and `%y`
is read and written in either mode whatever the parameter (R270, R286, R289). -/
def Obligations.PrivilegeCheckParameter : Prop :=
  trapType .privilegedInstruction = 0x03#8 ∧
  ∀ (p : Params) (s : State) (r : StateReg) (rd ro1 : Reg) (o : Operand2),
    (p.privCheck = true → s.psr.s = false →
      rettWith p ro1 o s = .next (takeTrap .privilegedInstruction s) ∧
      (r ≠ .y → rdWith p r rd s = .next (takeTrap .privilegedInstruction s) ∧
        wrWith p r ro1 o s = .next (takeTrap .privilegedInstruction s))) ∧
    (p.privCheck = false ∨ s.psr.s = true →
      rettWith p ro1 o s = rettWith { p with privCheck := false } ro1 o s) ∧
    (p.privCheck = false ∨ s.psr.s = true ∨ r = .y →
      rdWith p r rd s = exec (rdOf r rd) s ∧ wrWith p r ro1 o s = exec (wrOf r ro1 o) s)

/-- Where `MEM` is partial, each of the eight loads and stores with a byte of its access absent raises
`AccessFault` (data), a misaligned one `MemAddressNotAligned` first, and a fetch with a byte of its word
absent `AccessFault` (fetch); where every byte is there it is the instruction, or the fetch, at the spec's
settings, in big-endian order as those are. With the spec's settings neither fault is ever raised (R281,
R288, R289). -/
def Obligations.AbsentMemoryParameter : Prop :=
  trapType .accessFaultFetch = 0x01#8 ∧ trapType .accessFaultData = 0x09#8 ∧
  (∀ (p : Params) (s : State) (rd ro1 : Reg) (o : Operand2), p.translate = settings.translate →
    let a := s.reg ro1 + s.operand2 o
    (∀ row ∈ accessRows p rd ro1 o s,
      ((∃ k < row.1, p.present (a + BitVec.ofNat 32 k) = false) → row.2.1 =
        .next (takeTrap (if a.toNat % row.1 = 0 then .accessFaultData else .memAddressNotAligned a) s)) ∧
      ((∀ k < row.1, p.present (a + BitVec.ofNat 32 k) = true) → p.byteOrder = .big →
        row.2.1 = exec row.2.2 s)) ∧
    ((∃ k < 4, p.present (s.pc + BitVec.ofNat 32 k) = false) →
      fetchInstr p s = .error .accessFaultFetch) ∧
    ((∀ k < 4, p.present (s.pc + BitVec.ofNat 32 k) = true) → p.byteOrder = .big →
      fetchInstr p s = fetchInstr settings s)) ∧
  (∀ s : State, fetchInstr settings s ≠ .error .accessFaultFetch) ∧
  (∀ (s : State) (dir : Word) (n : Nat) (kind : AccessKind) (aligned : Bool),
    dataAddress settings s dir n kind aligned ≠ .error .accessFaultData)

/-! ## The end of a run -/

/-- R329, in the model's reading of its conventions (log entry 19). Error mode always ends a run, as a
fault, whatever the convention and however many steps are left. A run that stops does so at the first state
of the run where its convention holds, which is not in error mode; under (d) it carries the trap number and
`%o0`. A run of `n` steps under (a) stops after them, or faults where one of them, the last included, enters
error mode. -/
def Obligations.RunsEnd : Prop :=
  ∀ (h : Halt) (fuel k n : Nat) (s t : State) (request : Option StopRequest),
    (s.errorMode = true → runUntil h fuel k s = .faulted .errorMode) ∧
    (runUntil h fuel k s = .stopped t request → t.errorMode = false ∧
      ∃ j, j ≤ fuel ∧ Host.Core.run Sys2Proof.core j s = .next t ∧
        (∀ i < j, ∃ u : State, Host.Core.run Sys2Proof.core i s = .next u ∧ h.reached (k + i) u = false) ∧
        match h with
        | .afterSteps m => k + j = m ∧ request = none
        | .atPc a => t.pc = a ∧ request = none
        | .selfBranch => t.annul = false ∧ memRead32 .big t.mem t.pc = 0x10BFFFFF#32 ∧
            memRead32 .big t.mem (t.pc + 4#32) = 0x01000000#32 ∧ request = none
        | .takenTa => ∃ ro1 o, Executes t (.ta ro1 o) ∧
            request = some { number := BitVec.ofNat 7 ((t.reg ro1 + t.operand2 o).toNat % 128),
                             o0 := t.reg 8#5 }) ∧
    (Host.Core.run Sys2Proof.core n s = .next t →
      runUntil (.afterSteps n) n 0 s = if t.errorMode then .faulted .errorMode else .stopped t none) ∧
    (∀ e : Fault, Host.Core.run Sys2Proof.core n s = .fault e →
      runUntil (.afterSteps n) n 0 s = .faulted e)
end

