-- ==== Sys2Proof/Laws/Memory.lean ====
section
/-! SUPPORT. The laws of memory: reading after writing a byte, and that every memory operation keeps the
canonical form. -/

namespace Sys2Proof.Machine

/-! ## One byte -/

theorem Memory.read_write_same (m : Memory) (a : Nat) (b : Byte) (h : Memory.wf m = true) :
    Memory.read (Memory.write m a b) a = b := by
  suffices H : ∀ (m : Memory) (lo : Nat), Memory.wfFrom lo m = true →
      Memory.read (Memory.write m a b) a = b from H m 0 h
  intro m
  induction m with
  | nil =>
    intro lo _
    by_cases hb : b = unlisted <;> simp [Memory.write, Memory.read, hb]
  | cons c rest ih =>
    obtain ⟨k, c⟩ := c
    intro lo hwf
    simp only [Memory.wfFrom, Bool.and_eq_true, decide_eq_true_eq, bne_iff_ne] at hwf
    have below : ∀ (m : Memory) (lo : Nat), a < lo → Memory.wfFrom lo m = true →
        Memory.read m a = unlisted := by
      intro m
      induction m with
      | nil => intros; rfl
      | cons d tail ih2 =>
        obtain ⟨j, d⟩ := d
        intro lo hlo hw
        simp only [Memory.wfFrom, Bool.and_eq_true, decide_eq_true_eq, bne_iff_ne] at hw
        have : a ≠ j := by omega
        simp only [Memory.read, this, if_false]
        exact ih2 (j + 1) (by omega) hw.2
    by_cases h1 : a < k
    · by_cases hb : b = unlisted
      · have : a ≠ k := by omega
        simp [Memory.write, h1, hb, Memory.read, this, below rest (k + 1) (by omega) hwf.2]
      · simp [Memory.write, h1, hb, Memory.read]
    · by_cases h2 : a = k
      · by_cases hb : b = unlisted
        · simp only [Memory.write, if_neg h1, if_pos h2, if_pos hb]
          rw [hb]
          exact below rest (k + 1) (by omega) hwf.2
        · simp [Memory.write, h2, hb, Memory.read]
      · simp [Memory.write, h1, h2, Memory.read, ih (k + 1) hwf.2]

theorem Memory.read_write_other (m : Memory) (a a' : Nat) (b : Byte) (hne : a' ≠ a) :
    Memory.read (Memory.write m a b) a' = Memory.read m a' := by
  induction m with
  | nil => by_cases hb : b = unlisted <;> simp [Memory.write, Memory.read, hb, hne]
  | cons c rest ih =>
    obtain ⟨k, c⟩ := c
    simp only [Memory.write]
    split
    · split <;> simp [Memory.read, hne]
    · split
      · rename_i h; subst h
        split <;> simp [Memory.read, hne]
      · simp [Memory.read, ih]

/-! ## The canonical form -/

theorem Memory.wfFrom_mono (m : Memory) {lo lo' : Nat} (hle : lo' ≤ lo)
    (h : Memory.wfFrom lo m = true) : Memory.wfFrom lo' m = true := by
  cases m with
  | nil => rfl
  | cons c rest =>
    obtain ⟨k, c⟩ := c
    simp only [Memory.wfFrom, Bool.and_eq_true, decide_eq_true_eq] at h ⊢
    exact ⟨⟨⟨by omega, h.1.1.2⟩, h.1.2⟩, h.2⟩

theorem Memory.wfFrom_write (m : Memory) (lo a : Nat) (b : Byte) (hlo : lo ≤ a) (ha : a < 2 ^ 32)
    (h : Memory.wfFrom lo m = true) : Memory.wfFrom lo (Memory.write m a b) = true := by
  induction m generalizing lo with
  | nil => by_cases hb : b = unlisted <;> simp [Memory.write, Memory.wfFrom, hb, hlo]; omega
  | cons c rest ih =>
    obtain ⟨k, c⟩ := c
    simp only [Memory.wfFrom, Bool.and_eq_true, decide_eq_true_eq, bne_iff_ne] at h
    obtain ⟨⟨⟨h1, h2⟩, h3⟩, h4⟩ := h
    simp only [Memory.write]
    split
    · split
      · simp [Memory.wfFrom, h1, h3, h4]; omega
      · simp [Memory.wfFrom, *]; omega
    · split
      · split
        · exact Memory.wfFrom_mono rest (by omega) h4
        · subst_vars; simp [Memory.wfFrom, *]; omega
      · simp [Memory.wfFrom, h1, h3, ih (k + 1) (by omega) h4]; omega

theorem Memory.wf_write (m : Memory) (a : Nat) (b : Byte) (ha : a < 2 ^ 32)
    (h : Memory.wf m = true) : Memory.wf (Memory.write m a b) = true :=
  Memory.wfFrom_write m 0 a b (Nat.zero_le a) ha h

theorem memWriteBytes_wf (bs : List Byte) (m : Memory) (a : Word) (h : Memory.wf m = true) :
    Memory.wf (memWriteBytes m a bs) = true := by
  induction bs generalizing m a with
  | nil => exact h
  | cons b bs ih => exact ih _ _ (Memory.wf_write m a.toNat b a.isLt h)

theorem memWrite8_wf (m : Memory) (a : Word) (v : Byte) (h : Memory.wf m = true) :
    Memory.wf (memWrite8 m a v) = true := memWriteBytes_wf _ m a h

theorem memWrite16_wf (o : ByteOrder) (m : Memory) (a : Word) (v : BitVec 16)
    (h : Memory.wf m = true) : Memory.wf (memWrite16 o m a v) = true := memWriteBytes_wf _ m a h

theorem memWrite32_wf (o : ByteOrder) (m : Memory) (a : Word) (v : Word)
    (h : Memory.wf m = true) : Memory.wf (memWrite32 o m a v) = true := memWriteBytes_wf _ m a h

theorem storeAtFetch_wf (p : Params) (s : State) (word : Word) (h : Memory.wf s.mem = true) :
    Memory.wf (storeAtFetch p s word) = true := by
  unfold storeAtFetch
  split
  · exact h
  · exact memWrite32_wf _ _ _ _ h

theorem reset_memory_wf : Memory.wf State.reset.mem = true := rfl

/-! ## What a write leaves alone -/

theorem memWriteBytes_other (bs : List Byte) (m : Memory) (a b : Word)
    (hlen : bs.length ≤ 2 ^ 32) (h : bs.length ≤ (b - a).toNat) :
    memRead8 (memWriteBytes m a bs) b = memRead8 m b := by
  induction bs generalizing m a with
  | nil => rfl
  | cons c bs ih =>
    simp only [List.length_cons] at h hlen
    have hne : b ≠ a := by rintro rfl; simp at h
    have hstep : (b - (a + 1#32)).toNat = (b - a).toNat - 1 := by
      bv_omega
    rw [memWriteBytes, ih _ _ (by omega) (by omega)]
    exact Memory.read_write_other _ _ _ _ (fun e => hne (BitVec.eq_of_toNat_eq e))

theorem memWrite8_other (m : Memory) (a b : Word) (v : Byte) (h : 1 ≤ (b - a).toNat) :
    memRead8 (memWrite8 m a v) b = memRead8 m b := memWriteBytes_other [v] m a b (by simp) h

theorem memWrite16_other (o : ByteOrder) (m : Memory) (a b : Word) (v : BitVec 16)
    (h : 2 ≤ (b - a).toNat) : memRead8 (memWrite16 o m a v) b = memRead8 m b := by
  cases o <;> exact memWriteBytes_other _ m a b (by simp [bytesOfHalf]) h

theorem memWrite32_other (o : ByteOrder) (m : Memory) (a b : Word) (v : Word)
    (h : 4 ≤ (b - a).toNat) : memRead8 (memWrite32 o m a v) b = memRead8 m b := by
  cases o <;> exact memWriteBytes_other _ m a b (by simp [bytesOfWord]) h

end Sys2Proof.Machine
end

