-- ==== Sys2Proof/Laws/State.lean ====
section
/-! SUPPORT. One lemma per field of State per named update, so that no proof unfolds a record update. -/

namespace Sys2Proof.Machine

/-! ### `setReg` -/

@[simp] theorem setReg_g (s : State) (r : Reg) (v : Word) :
    (s.setReg r v).g = writeGlobals s.g r v := rfl
@[simp] theorem setReg_w (s : State) (r : Reg) (v : Word) :
    (s.setReg r v).w = writeWindowed s.w s.psr.cwp r v := rfl
@[simp] theorem setReg_pc (s : State) (r : Reg) (v : Word) : (s.setReg r v).pc = s.pc := rfl
@[simp] theorem setReg_npc (s : State) (r : Reg) (v : Word) : (s.setReg r v).npc = s.npc := rfl
@[simp] theorem setReg_y (s : State) (r : Reg) (v : Word) : (s.setReg r v).y = s.y := rfl
@[simp] theorem setReg_psr (s : State) (r : Reg) (v : Word) : (s.setReg r v).psr = s.psr := rfl
@[simp] theorem setReg_wim (s : State) (r : Reg) (v : Word) : (s.setReg r v).wim = s.wim := rfl
@[simp] theorem setReg_tbr (s : State) (r : Reg) (v : Word) : (s.setReg r v).tbr = s.tbr := rfl
@[simp] theorem setReg_base (s : State) (r : Reg) (v : Word) : (s.setReg r v).base = s.base := rfl
@[simp] theorem setReg_limite (s : State) (r : Reg) (v : Word) :
    (s.setReg r v).limite = s.limite := rfl
@[simp] theorem setReg_annul (s : State) (r : Reg) (v : Word) :
    (s.setReg r v).annul = s.annul := rfl
@[simp] theorem setReg_errorMode (s : State) (r : Reg) (v : Word) :
    (s.setReg r v).errorMode = s.errorMode := rfl
@[simp] theorem setReg_mem (s : State) (r : Reg) (v : Word) : (s.setReg r v).mem = s.mem := rfl

/-! ### `setCwp` -/

@[simp] theorem setCwp_g (s : State) (c : BitVec 5) : (s.setCwp c).g = s.g := rfl
@[simp] theorem setCwp_w (s : State) (c : BitVec 5) : (s.setCwp c).w = s.w := rfl
@[simp] theorem setCwp_pc (s : State) (c : BitVec 5) : (s.setCwp c).pc = s.pc := rfl
@[simp] theorem setCwp_npc (s : State) (c : BitVec 5) : (s.setCwp c).npc = s.npc := rfl
@[simp] theorem setCwp_y (s : State) (c : BitVec 5) : (s.setCwp c).y = s.y := rfl
@[simp] theorem setCwp_psr (s : State) (c : BitVec 5) :
    (s.setCwp c).psr = { s.psr with cwp := c } := rfl
@[simp] theorem setCwp_wim (s : State) (c : BitVec 5) : (s.setCwp c).wim = s.wim := rfl
@[simp] theorem setCwp_tbr (s : State) (c : BitVec 5) : (s.setCwp c).tbr = s.tbr := rfl
@[simp] theorem setCwp_base (s : State) (c : BitVec 5) : (s.setCwp c).base = s.base := rfl
@[simp] theorem setCwp_limite (s : State) (c : BitVec 5) : (s.setCwp c).limite = s.limite := rfl
@[simp] theorem setCwp_annul (s : State) (c : BitVec 5) : (s.setCwp c).annul = s.annul := rfl
@[simp] theorem setCwp_errorMode (s : State) (c : BitVec 5) :
    (s.setCwp c).errorMode = s.errorMode := rfl
@[simp] theorem setCwp_mem (s : State) (c : BitVec 5) : (s.setCwp c).mem = s.mem := rfl

/-! ### `setIcc` -/

@[simp] theorem setIcc_g (s : State) (f : Icc) : (s.setIcc f).g = s.g := rfl
@[simp] theorem setIcc_w (s : State) (f : Icc) : (s.setIcc f).w = s.w := rfl
@[simp] theorem setIcc_pc (s : State) (f : Icc) : (s.setIcc f).pc = s.pc := rfl
@[simp] theorem setIcc_npc (s : State) (f : Icc) : (s.setIcc f).npc = s.npc := rfl
@[simp] theorem setIcc_y (s : State) (f : Icc) : (s.setIcc f).y = s.y := rfl
@[simp] theorem setIcc_psr (s : State) (f : Icc) : (s.setIcc f).psr = { s.psr with icc := f } := rfl
@[simp] theorem setIcc_wim (s : State) (f : Icc) : (s.setIcc f).wim = s.wim := rfl
@[simp] theorem setIcc_tbr (s : State) (f : Icc) : (s.setIcc f).tbr = s.tbr := rfl
@[simp] theorem setIcc_base (s : State) (f : Icc) : (s.setIcc f).base = s.base := rfl
@[simp] theorem setIcc_limite (s : State) (f : Icc) : (s.setIcc f).limite = s.limite := rfl
@[simp] theorem setIcc_annul (s : State) (f : Icc) : (s.setIcc f).annul = s.annul := rfl
@[simp] theorem setIcc_errorMode (s : State) (f : Icc) : (s.setIcc f).errorMode = s.errorMode := rfl
@[simp] theorem setIcc_mem (s : State) (f : Icc) : (s.setIcc f).mem = s.mem := rfl

/-! ### `setIccIf` -/

@[simp] theorem setIccIf_g (s : State) (cc : Bool) (f : Icc) : (s.setIccIf cc f).g = s.g := rfl
@[simp] theorem setIccIf_w (s : State) (cc : Bool) (f : Icc) : (s.setIccIf cc f).w = s.w := rfl
@[simp] theorem setIccIf_pc (s : State) (cc : Bool) (f : Icc) : (s.setIccIf cc f).pc = s.pc := rfl
@[simp] theorem setIccIf_npc (s : State) (cc : Bool) (f : Icc) :
    (s.setIccIf cc f).npc = s.npc := rfl
@[simp] theorem setIccIf_y (s : State) (cc : Bool) (f : Icc) : (s.setIccIf cc f).y = s.y := rfl
@[simp] theorem setIccIf_psr (s : State) (cc : Bool) (f : Icc) :
    (s.setIccIf cc f).psr = { s.psr with icc := if cc then f else s.psr.icc } := rfl
@[simp] theorem setIccIf_wim (s : State) (cc : Bool) (f : Icc) :
    (s.setIccIf cc f).wim = s.wim := rfl
@[simp] theorem setIccIf_tbr (s : State) (cc : Bool) (f : Icc) :
    (s.setIccIf cc f).tbr = s.tbr := rfl
@[simp] theorem setIccIf_base (s : State) (cc : Bool) (f : Icc) :
    (s.setIccIf cc f).base = s.base := rfl
@[simp] theorem setIccIf_limite (s : State) (cc : Bool) (f : Icc) :
    (s.setIccIf cc f).limite = s.limite := rfl
@[simp] theorem setIccIf_annul (s : State) (cc : Bool) (f : Icc) :
    (s.setIccIf cc f).annul = s.annul := rfl
@[simp] theorem setIccIf_errorMode (s : State) (cc : Bool) (f : Icc) :
    (s.setIccIf cc f).errorMode = s.errorMode := rfl
@[simp] theorem setIccIf_mem (s : State) (cc : Bool) (f : Icc) :
    (s.setIccIf cc f).mem = s.mem := rfl

/-! ### `setY` -/

@[simp] theorem setY_g (s : State) (v : Word) : (s.setY v).g = s.g := rfl
@[simp] theorem setY_w (s : State) (v : Word) : (s.setY v).w = s.w := rfl
@[simp] theorem setY_pc (s : State) (v : Word) : (s.setY v).pc = s.pc := rfl
@[simp] theorem setY_npc (s : State) (v : Word) : (s.setY v).npc = s.npc := rfl
@[simp] theorem setY_y (s : State) (v : Word) : (s.setY v).y = v := rfl
@[simp] theorem setY_psr (s : State) (v : Word) : (s.setY v).psr = s.psr := rfl
@[simp] theorem setY_wim (s : State) (v : Word) : (s.setY v).wim = s.wim := rfl
@[simp] theorem setY_tbr (s : State) (v : Word) : (s.setY v).tbr = s.tbr := rfl
@[simp] theorem setY_base (s : State) (v : Word) : (s.setY v).base = s.base := rfl
@[simp] theorem setY_limite (s : State) (v : Word) : (s.setY v).limite = s.limite := rfl
@[simp] theorem setY_annul (s : State) (v : Word) : (s.setY v).annul = s.annul := rfl
@[simp] theorem setY_errorMode (s : State) (v : Word) : (s.setY v).errorMode = s.errorMode := rfl
@[simp] theorem setY_mem (s : State) (v : Word) : (s.setY v).mem = s.mem := rfl

/-! ### `advance` -/

@[simp] theorem advance_g (s : State) : (s.advance).g = s.g := rfl
@[simp] theorem advance_w (s : State) : (s.advance).w = s.w := rfl
@[simp] theorem advance_pc (s : State) : (s.advance).pc = s.npc := rfl
@[simp] theorem advance_npc (s : State) : (s.advance).npc = s.npc + 4#32 := rfl
@[simp] theorem advance_y (s : State) : (s.advance).y = s.y := rfl
@[simp] theorem advance_psr (s : State) : (s.advance).psr = s.psr := rfl
@[simp] theorem advance_wim (s : State) : (s.advance).wim = s.wim := rfl
@[simp] theorem advance_tbr (s : State) : (s.advance).tbr = s.tbr := rfl
@[simp] theorem advance_base (s : State) : (s.advance).base = s.base := rfl
@[simp] theorem advance_limite (s : State) : (s.advance).limite = s.limite := rfl
@[simp] theorem advance_annul (s : State) : (s.advance).annul = s.annul := rfl
@[simp] theorem advance_errorMode (s : State) : (s.advance).errorMode = s.errorMode := rfl
@[simp] theorem advance_mem (s : State) : (s.advance).mem = s.mem := rfl

/-! ### `transfer` -/

@[simp] theorem transfer_g (s : State) (a : Word) : (s.transfer a).g = s.g := rfl
@[simp] theorem transfer_w (s : State) (a : Word) : (s.transfer a).w = s.w := rfl
@[simp] theorem transfer_pc (s : State) (a : Word) : (s.transfer a).pc = s.npc := rfl
@[simp] theorem transfer_npc (s : State) (a : Word) : (s.transfer a).npc = a := rfl
@[simp] theorem transfer_y (s : State) (a : Word) : (s.transfer a).y = s.y := rfl
@[simp] theorem transfer_psr (s : State) (a : Word) : (s.transfer a).psr = s.psr := rfl
@[simp] theorem transfer_wim (s : State) (a : Word) : (s.transfer a).wim = s.wim := rfl
@[simp] theorem transfer_tbr (s : State) (a : Word) : (s.transfer a).tbr = s.tbr := rfl
@[simp] theorem transfer_base (s : State) (a : Word) : (s.transfer a).base = s.base := rfl
@[simp] theorem transfer_limite (s : State) (a : Word) : (s.transfer a).limite = s.limite := rfl
@[simp] theorem transfer_annul (s : State) (a : Word) : (s.transfer a).annul = s.annul := rfl
@[simp] theorem transfer_errorMode (s : State) (a : Word) :
    (s.transfer a).errorMode = s.errorMode := rfl
@[simp] theorem transfer_mem (s : State) (a : Word) : (s.transfer a).mem = s.mem := rfl

/-! ### `annulledStep` -/

@[simp] theorem annulledStep_g (s : State) : (s.annulledStep).g = s.g := rfl
@[simp] theorem annulledStep_w (s : State) : (s.annulledStep).w = s.w := rfl
@[simp] theorem annulledStep_pc (s : State) : (s.annulledStep).pc = s.npc := rfl
@[simp] theorem annulledStep_npc (s : State) : (s.annulledStep).npc = s.npc + 4#32 := rfl
@[simp] theorem annulledStep_y (s : State) : (s.annulledStep).y = s.y := rfl
@[simp] theorem annulledStep_psr (s : State) : (s.annulledStep).psr = s.psr := rfl
@[simp] theorem annulledStep_wim (s : State) : (s.annulledStep).wim = s.wim := rfl
@[simp] theorem annulledStep_tbr (s : State) : (s.annulledStep).tbr = s.tbr := rfl
@[simp] theorem annulledStep_base (s : State) : (s.annulledStep).base = s.base := rfl
@[simp] theorem annulledStep_limite (s : State) : (s.annulledStep).limite = s.limite := rfl
@[simp] theorem annulledStep_annul (s : State) : (s.annulledStep).annul = false := rfl
@[simp] theorem annulledStep_errorMode (s : State) : (s.annulledStep).errorMode = s.errorMode := rfl
@[simp] theorem annulledStep_mem (s : State) : (s.annulledStep).mem = s.mem := rfl

/-! ### `annulNextIf` -/

@[simp] theorem annulNextIf_g (s : State) (c : Bool) : (s.annulNextIf c).g = s.g := rfl
@[simp] theorem annulNextIf_w (s : State) (c : Bool) : (s.annulNextIf c).w = s.w := rfl
@[simp] theorem annulNextIf_pc (s : State) (c : Bool) : (s.annulNextIf c).pc = s.pc := rfl
@[simp] theorem annulNextIf_npc (s : State) (c : Bool) : (s.annulNextIf c).npc = s.npc := rfl
@[simp] theorem annulNextIf_y (s : State) (c : Bool) : (s.annulNextIf c).y = s.y := rfl
@[simp] theorem annulNextIf_psr (s : State) (c : Bool) : (s.annulNextIf c).psr = s.psr := rfl
@[simp] theorem annulNextIf_wim (s : State) (c : Bool) : (s.annulNextIf c).wim = s.wim := rfl
@[simp] theorem annulNextIf_tbr (s : State) (c : Bool) : (s.annulNextIf c).tbr = s.tbr := rfl
@[simp] theorem annulNextIf_base (s : State) (c : Bool) : (s.annulNextIf c).base = s.base := rfl
@[simp] theorem annulNextIf_limite (s : State) (c : Bool) :
    (s.annulNextIf c).limite = s.limite := rfl
@[simp] theorem annulNextIf_annul (s : State) (c : Bool) :
    (s.annulNextIf c).annul = if c then true else s.annul := rfl
@[simp] theorem annulNextIf_errorMode (s : State) (c : Bool) :
    (s.annulNextIf c).errorMode = s.errorMode := rfl
@[simp] theorem annulNextIf_mem (s : State) (c : Bool) : (s.annulNextIf c).mem = s.mem := rfl

/-! ### `mulWrite` -/

@[simp] theorem mulWrite_g (s : State) (rd : Reg) (p : BitVec 64) :
    (mulWrite rd p s).g = writeGlobals s.g rd (productLow p) := rfl
@[simp] theorem mulWrite_w (s : State) (rd : Reg) (p : BitVec 64) :
    (mulWrite rd p s).w = writeWindowed s.w s.psr.cwp rd (productLow p) := rfl
@[simp] theorem mulWrite_pc (s : State) (rd : Reg) (p : BitVec 64) :
    (mulWrite rd p s).pc = s.pc := rfl
@[simp] theorem mulWrite_npc (s : State) (rd : Reg) (p : BitVec 64) :
    (mulWrite rd p s).npc = s.npc := rfl
@[simp] theorem mulWrite_y (s : State) (rd : Reg) (p : BitVec 64) :
    (mulWrite rd p s).y = productHigh p := rfl
@[simp] theorem mulWrite_psr (s : State) (rd : Reg) (p : BitVec 64) :
    (mulWrite rd p s).psr = s.psr := rfl
@[simp] theorem mulWrite_wim (s : State) (rd : Reg) (p : BitVec 64) :
    (mulWrite rd p s).wim = s.wim := rfl
@[simp] theorem mulWrite_tbr (s : State) (rd : Reg) (p : BitVec 64) :
    (mulWrite rd p s).tbr = s.tbr := rfl
@[simp] theorem mulWrite_base (s : State) (rd : Reg) (p : BitVec 64) :
    (mulWrite rd p s).base = s.base := rfl
@[simp] theorem mulWrite_limite (s : State) (rd : Reg) (p : BitVec 64) :
    (mulWrite rd p s).limite = s.limite := rfl
@[simp] theorem mulWrite_annul (s : State) (rd : Reg) (p : BitVec 64) :
    (mulWrite rd p s).annul = s.annul := rfl
@[simp] theorem mulWrite_errorMode (s : State) (rd : Reg) (p : BitVec 64) :
    (mulWrite rd p s).errorMode = s.errorMode := rfl
@[simp] theorem mulWrite_mem (s : State) (rd : Reg) (p : BitVec 64) :
    (mulWrite rd p s).mem = s.mem := rfl

/-! ### `divWrite` -/

@[simp] theorem divWrite_g (s : State) (cc : Bool) (rd : Reg) (q rem : Word) (f : Icc) :
    (divWrite cc rd q rem f s).g = writeGlobals s.g rd q := rfl
@[simp] theorem divWrite_w (s : State) (cc : Bool) (rd : Reg) (q rem : Word) (f : Icc) :
    (divWrite cc rd q rem f s).w = writeWindowed s.w s.psr.cwp rd q := rfl
@[simp] theorem divWrite_pc (s : State) (cc : Bool) (rd : Reg) (q rem : Word) (f : Icc) :
    (divWrite cc rd q rem f s).pc = s.npc := rfl
@[simp] theorem divWrite_npc (s : State) (cc : Bool) (rd : Reg) (q rem : Word) (f : Icc) :
    (divWrite cc rd q rem f s).npc = s.npc + 4#32 := rfl
@[simp] theorem divWrite_y (s : State) (cc : Bool) (rd : Reg) (q rem : Word) (f : Icc) :
    (divWrite cc rd q rem f s).y = rem := rfl
@[simp] theorem divWrite_psr (s : State) (cc : Bool) (rd : Reg) (q rem : Word) (f : Icc) :
    (divWrite cc rd q rem f s).psr = { s.psr with icc := if cc then f else s.psr.icc } := rfl
@[simp] theorem divWrite_wim (s : State) (cc : Bool) (rd : Reg) (q rem : Word) (f : Icc) :
    (divWrite cc rd q rem f s).wim = s.wim := rfl
@[simp] theorem divWrite_tbr (s : State) (cc : Bool) (rd : Reg) (q rem : Word) (f : Icc) :
    (divWrite cc rd q rem f s).tbr = s.tbr := rfl
@[simp] theorem divWrite_base (s : State) (cc : Bool) (rd : Reg) (q rem : Word) (f : Icc) :
    (divWrite cc rd q rem f s).base = s.base := rfl
@[simp] theorem divWrite_limite (s : State) (cc : Bool) (rd : Reg) (q rem : Word) (f : Icc) :
    (divWrite cc rd q rem f s).limite = s.limite := rfl
@[simp] theorem divWrite_annul (s : State) (cc : Bool) (rd : Reg) (q rem : Word) (f : Icc) :
    (divWrite cc rd q rem f s).annul = s.annul := rfl
@[simp] theorem divWrite_errorMode (s : State) (cc : Bool) (rd : Reg) (q rem : Word) (f : Icc) :
    (divWrite cc rd q rem f s).errorMode = s.errorMode := rfl
@[simp] theorem divWrite_mem (s : State) (cc : Bool) (rd : Reg) (q rem : Word) (f : Icc) :
    (divWrite cc rd q rem f s).mem = s.mem := rfl

/-! ### `enterErrorMode` -/

@[simp] theorem enterErrorMode_g (s : State) : (enterErrorMode s).g = s.g := rfl
@[simp] theorem enterErrorMode_w (s : State) : (enterErrorMode s).w = s.w := rfl
@[simp] theorem enterErrorMode_pc (s : State) : (enterErrorMode s).pc = s.pc := rfl
@[simp] theorem enterErrorMode_npc (s : State) : (enterErrorMode s).npc = s.npc := rfl
@[simp] theorem enterErrorMode_y (s : State) : (enterErrorMode s).y = s.y := rfl
@[simp] theorem enterErrorMode_psr (s : State) : (enterErrorMode s).psr = s.psr := rfl
@[simp] theorem enterErrorMode_wim (s : State) : (enterErrorMode s).wim = s.wim := rfl
@[simp] theorem enterErrorMode_tbr (s : State) : (enterErrorMode s).tbr = s.tbr := rfl
@[simp] theorem enterErrorMode_base (s : State) : (enterErrorMode s).base = s.base := rfl
@[simp] theorem enterErrorMode_limite (s : State) : (enterErrorMode s).limite = s.limite := rfl
@[simp] theorem enterErrorMode_annul (s : State) : (enterErrorMode s).annul = s.annul := rfl
@[simp] theorem enterErrorMode_errorMode (s : State) : (enterErrorMode s).errorMode = true := rfl
@[simp] theorem enterErrorMode_mem (s : State) : (enterErrorMode s).mem = s.mem := rfl

/-! ### `trapEntry` -/

@[simp] theorem trapEntry_g (s : State) (tt : BitVec 8) :
    (trapEntry tt s).g = s.g := by
  simp only [trapEntry, State.setReg, writeGlobals]
  exact (Vector.setIfInBounds_eq_of_size_le (by decide)).trans
    (Vector.setIfInBounds_eq_of_size_le (by decide))
@[simp] theorem trapEntry_w (s : State) (tt : BitVec 8) :
    (trapEntry tt s).w = writeWindowed (writeWindowed s.w (s.psr.cwp - 1#5) 17#5 s.pc) (s.psr.cwp - 1#5) 18#5 s.npc := rfl
@[simp] theorem trapEntry_pc (s : State) (tt : BitVec 8) :
    (trapEntry tt s).pc = trapVector s.tbr.tba tt := rfl
@[simp] theorem trapEntry_npc (s : State) (tt : BitVec 8) :
    (trapEntry tt s).npc = trapVector s.tbr.tba tt + 4#32 := rfl
@[simp] theorem trapEntry_y (s : State) (tt : BitVec 8) : (trapEntry tt s).y = s.y := rfl
@[simp] theorem trapEntry_psr (s : State) (tt : BitVec 8) :
    (trapEntry tt s).psr = psrTrap s.psr := rfl
@[simp] theorem trapEntry_wim (s : State) (tt : BitVec 8) : (trapEntry tt s).wim = s.wim := rfl
@[simp] theorem trapEntry_tbr (s : State) (tt : BitVec 8) :
    (trapEntry tt s).tbr = { s.tbr with tt := tt } := rfl
@[simp] theorem trapEntry_base (s : State) (tt : BitVec 8) : (trapEntry tt s).base = s.base := rfl
@[simp] theorem trapEntry_limite (s : State) (tt : BitVec 8) :
    (trapEntry tt s).limite = s.limite := rfl
@[simp] theorem trapEntry_annul (s : State) (tt : BitVec 8) : (trapEntry tt s).annul = false := rfl
@[simp] theorem trapEntry_errorMode (s : State) (tt : BitVec 8) :
    (trapEntry tt s).errorMode = s.errorMode := rfl
@[simp] theorem trapEntry_mem (s : State) (tt : BitVec 8) : (trapEntry tt s).mem = s.mem := rfl

/-! ### `returnFromTrap` -/

@[simp] theorem returnFromTrap_g (s : State) (dir : Word) : (returnFromTrap dir s).g = s.g := rfl
@[simp] theorem returnFromTrap_w (s : State) (dir : Word) : (returnFromTrap dir s).w = s.w := rfl
@[simp] theorem returnFromTrap_pc (s : State) (dir : Word) :
    (returnFromTrap dir s).pc = s.npc := rfl
@[simp] theorem returnFromTrap_npc (s : State) (dir : Word) :
    (returnFromTrap dir s).npc = dir := rfl
@[simp] theorem returnFromTrap_y (s : State) (dir : Word) : (returnFromTrap dir s).y = s.y := rfl
@[simp] theorem returnFromTrap_psr (s : State) (dir : Word) :
    (returnFromTrap dir s).psr = psrReturn s.psr := rfl
@[simp] theorem returnFromTrap_wim (s : State) (dir : Word) :
    (returnFromTrap dir s).wim = s.wim := rfl
@[simp] theorem returnFromTrap_tbr (s : State) (dir : Word) :
    (returnFromTrap dir s).tbr = s.tbr := rfl
@[simp] theorem returnFromTrap_base (s : State) (dir : Word) :
    (returnFromTrap dir s).base = s.base := rfl
@[simp] theorem returnFromTrap_limite (s : State) (dir : Word) :
    (returnFromTrap dir s).limite = s.limite := rfl
@[simp] theorem returnFromTrap_annul (s : State) (dir : Word) :
    (returnFromTrap dir s).annul = s.annul := rfl
@[simp] theorem returnFromTrap_errorMode (s : State) (dir : Word) :
    (returnFromTrap dir s).errorMode = s.errorMode := rfl
@[simp] theorem returnFromTrap_mem (s : State) (dir : Word) :
    (returnFromTrap dir s).mem = s.mem := rfl

/-! ### `readStateReg` and `writeStateReg` -/

@[simp] theorem readStateReg_y (s : State) : s.readStateReg .y = s.y := rfl
@[simp] theorem readStateReg_psr (s : State) : s.readStateReg .psr = psrImage s.psr := rfl
@[simp] theorem readStateReg_wim (s : State) : s.readStateReg .wim = s.wim := rfl
@[simp] theorem readStateReg_tbr (s : State) : s.readStateReg .tbr = tbrImage s.tbr := rfl
@[simp] theorem readStateReg_base (s : State) : s.readStateReg .base = s.base := rfl
@[simp] theorem readStateReg_limite (s : State) : s.readStateReg .limite = s.limite := rfl
@[simp] theorem writeStateReg_y (s : State) (v : Word) :
    s.writeStateReg .y v = s.setY v := rfl
@[simp] theorem writeStateReg_psr (s : State) (v : Word) :
    s.writeStateReg .psr v = { s with psr := psrOfImage v } := rfl
@[simp] theorem writeStateReg_wim (s : State) (v : Word) :
    s.writeStateReg .wim v = { s with wim := v } := rfl
@[simp] theorem writeStateReg_tbr (s : State) (v : Word) :
    s.writeStateReg .tbr v = { s with tbr := { s.tbr with tba := v.extractLsb' 12 20 } } := rfl
@[simp] theorem writeStateReg_base (s : State) (v : Word) :
    s.writeStateReg .base v = { s with base := v } := rfl
@[simp] theorem writeStateReg_limite (s : State) (v : Word) :
    s.writeStateReg .limite v = { s with limite := v } := rfl

@[simp] theorem writeStateReg_keeps_g (s : State) (r : StateReg) (v : Word) :
    (s.writeStateReg r v).g = s.g := by cases r <;> rfl
@[simp] theorem writeStateReg_keeps_w (s : State) (r : StateReg) (v : Word) :
    (s.writeStateReg r v).w = s.w := by cases r <;> rfl
@[simp] theorem writeStateReg_keeps_pc (s : State) (r : StateReg) (v : Word) :
    (s.writeStateReg r v).pc = s.pc := by cases r <;> rfl
@[simp] theorem writeStateReg_keeps_npc (s : State) (r : StateReg) (v : Word) :
    (s.writeStateReg r v).npc = s.npc := by cases r <;> rfl
@[simp] theorem writeStateReg_keeps_annul (s : State) (r : StateReg) (v : Word) :
    (s.writeStateReg r v).annul = s.annul := by cases r <;> rfl
@[simp] theorem writeStateReg_keeps_errorMode (s : State) (r : StateReg) (v : Word) :
    (s.writeStateReg r v).errorMode = s.errorMode := by cases r <;> rfl
@[simp] theorem writeStateReg_keeps_mem (s : State) (r : StateReg) (v : Word) :
    (s.writeStateReg r v).mem = s.mem := by cases r <;> rfl

end Sys2Proof.Machine
end

