-- ==== Sys2Proof/Laws/Registers.lean ====
section
/-! SUPPORT. The laws of the general registers: what a write changes and what it keeps. -/

namespace Sys2Proof.Machine

/-- A register reads the same in two states with the same cells and the same CWP. -/
theorem reg_congr (s t : State) (r : Reg) (hg : t.g = s.g) (hw : t.w = s.w)
    (hc : t.psr.cwp = s.psr.cwp) : t.reg r = s.reg r := by
  simp only [State.reg, hg, hw, hc]

/-- A global reads its cell of `G`, in every window (R13). -/
theorem reg_global (s : State) (r : Reg) (h0 : r ≠ 0#5) (h8 : r.toNat < 8) :
    s.reg r = s.g[r.toNat] := by
  simp only [State.reg, if_neg h0, dif_pos h8]

/-- A windowed register reads its cell of `W` (R13). -/
theorem reg_windowed (s : State) (r : Reg) (h8 : 8 ≤ r.toNat) :
    s.reg r = s.w[windowIndex s.psr.cwp r] := by
  have h0 : r ≠ 0#5 := by rintro rfl; simp at h8
  simp only [State.reg, if_neg h0, dif_neg (Nat.not_lt.mpr h8)]

/-- The windowed registers of one window are different cells (R13). -/
theorem windowIndex_injective (c : BitVec 5) {r r' : Reg} (h : 8 ≤ r.toNat) (h' : 8 ≤ r'.toNat)
    (e : windowIndex c r = windowIndex c r') : r = r' := by
  have hv := congrArg Fin.val e
  simp only [windowIndex] at hv
  have := c.isLt
  have := r.isLt
  have := r'.isLt
  exact BitVec.eq_of_toNat_eq (by omega)

theorem writeGlobals_other (g : Vector Word 8) (r : Reg) (v : Word) (k : Fin 8)
    (h : r = 0#5 ∨ k.val ≠ r.toNat) : (writeGlobals g r v)[k] = g[k] := by
  unfold writeGlobals
  split
  · rfl
  · have hk : r.toNat ≠ k.val := fun e => h.elim (by assumption) (fun h => h e.symm)
    simp [hk]

theorem writeWindowed_other (w : Vector Word 512) (c : BitVec 5) (r : Reg) (v : Word) (k : Fin 512)
    (h : r.toNat < 8 ∨ k ≠ windowIndex c r) : (writeWindowed w c r v)[k] = w[k] := by
  unfold writeWindowed
  split
  · rfl
  · rename_i h8
    have hk : (windowIndex c r).val ≠ k.val := fun e =>
      (h.resolve_left h8) (Fin.ext e.symm)
    simp [hk]

/-- All that writing a register does (R11, R13): the register reads the value, or zero for `%r0`, and
no other cell changes. -/
theorem setReg_wroteReg (s : State) (r : Reg) (v : Word) : WroteReg r v s (s.setReg r v) := by
  refine ⟨?_, fun k hk => writeGlobals_other _ _ _ k hk, fun k hk => writeWindowed_other _ _ _ _ k hk⟩
  simp only [State.reg, setReg_g, setReg_w, setReg_psr]
  split
  · rfl
  · rename_i h0
    split
    · rename_i h8
      simp [writeGlobals, h0]
    · rename_i h8
      simp [writeWindowed, h8]

/-- `WroteReg` looks at the registers and CWP of the state after alone. -/
theorem WroteReg.congr {r : Reg} {v : Word} {s t u : State} (h : WroteReg r v s t)
    (hg : u.g = t.g) (hw : u.w = t.w) (hc : u.psr.cwp = t.psr.cwp) : WroteReg r v s u := by
  refine ⟨(reg_congr t u r hg hw hc).trans h.1, ?_, ?_⟩
  · intro k hk; rw [hg]; exact h.2.1 k hk
  · intro k hk; rw [hw]; rw [hc] at hk; exact h.2.2 k hk

end Sys2Proof.Machine
end

