-- ==== Sys2Proof/Laws/Ops.lean ====
section
/-! SUPPORT. One lemma per shared operation: all it can do. -/

namespace Sys2Proof.Machine

/-! ## The spec's settings -/

@[simp] theorem settings_byteOrder : settings.byteOrder = .big := rfl
@[simp] theorem settings_present (a : Word) : settings.present a = true := rfl
@[simp] theorem settings_branchBase : settings.branchBase = .npc := rfl
@[simp] theorem settings_jmpLink : settings.jmpLink = .dir := rfl
@[simp] theorem settings_baAnnuls : settings.baAnnuls = false := rfl
@[simp] theorem settings_wimCheck : settings.wimCheck = false := rfl
@[simp] theorem settings_privCheck : settings.privCheck = false := rfl
@[simp] theorem settings_translate (b l : Word) (m : Bool) (dir : Word) (k : AccessKind) :
    settings.translate b l m dir k = some dir := rfl

@[simp] theorem presentBytes_settings (a : Word) (n : Nat) : presentBytes settings a n = true := by
  induction n generalizing a with
  | zero => rfl
  | succ n ih => simp [presentBytes, ih]

/-- The `n` bytes from `a` exist where each of them does (R48). -/
theorem presentBytes_iff (p : Params) (a : Word) (n : Nat) :
    presentBytes p a n = true ↔ ∀ k < n, p.present (a + BitVec.ofNat 32 k) = true := by
  induction n generalizing a with
  | zero => simp [presentBytes]
  | succ n ih =>
    have shift (k : Nat) : a + 1#32 + BitVec.ofNat 32 k = a + BitVec.ofNat 32 (k + 1) := by
      rw [BitVec.add_assoc, Nat.add_comm k, BitVec.ofNat_add]
    simp only [presentBytes, Bool.and_eq_true, ih, shift]
    constructor
    · rintro ⟨h0, h⟩ (_ | k) hk
      · simpa using h0
      · exact h k (by omega)
    · intro h
      exact ⟨by simpa using h 0 (by omega), fun k hk => h (k + 1) (by omega)⟩

/-- A word address is a multiple of 4 (R43). -/
theorem isWordAligned_eq (a : Word) : isWordAligned a = decide (a.toNat % 4 = 0) := by
  rw [isWordAligned, Bool.eq_iff_iff]
  simp [BitVec.toNat_eq, BitVec.extractLsb'_toNat]

/-- A half-word address is even (R43). -/
theorem isHalfAligned_eq (a : Word) : isHalfAligned a = decide (a.toNat % 2 = 0) := by
  rw [isHalfAligned, Bool.eq_iff_iff]
  simp [BitVec.toNat_eq, BitVec.extractLsb'_toNat]

/-- At the spec's settings every address is reached and is its own translation (R48, R49). -/
@[simp] theorem reach_settings (s : State) (dir : Word) (n : Nat) (k : AccessKind) :
    reach settings s dir n k = some dir := by simp [reach]

@[simp] theorem dataAddress_settings (s : State) (dir : Word) (n : Nat) (k : AccessKind) (al : Bool) :
    dataAddress settings s dir n k al =
      if al then .ok dir else .error (.memAddressNotAligned dir) := by
  simp [dataAddress]

@[simp] theorem branchOrigin_settings (s : State) : s.branchOrigin settings = s.npc := rfl
@[simp] theorem privilegeViolated_settings (s : State) : privilegeViolated settings s = false := rfl
@[simp] theorem windowTrapped_settings (s : State) (w : BitVec 5) :
    windowTrapped settings s w = false := rfl

/-- At the spec's settings every read of a state register completes (R270). -/
@[simp] theorem rdWith_settings (r : StateReg) (rd : Reg) (s : State) :
    rdWith settings r rd s = .next (s.setReg rd (s.readStateReg r)).advance := by
  cases r <;> rfl

/-- At the spec's settings every write of a state register completes (R270). -/
@[simp] theorem wrWith_settings (r : StateReg) (ro1 : Reg) (o : Operand2) (s : State) :
    wrWith settings r ro1 o s = .next (s.writeStateReg r (s.wrValue ro1 o)).advance := by
  cases r <;> rfl

@[simp] theorem fetchAddress_settings (s : State) : fetchAddress settings s = some s.pc := by
  simp [fetchAddress]
@[simp] theorem storeAtFetch_settings (s : State) (word : Word) :
    storeAtFetch settings s word = memWrite32 .big s.mem s.pc word := by
  simp [storeAtFetch]

/-! ## Exceptions -/

/-- All that taking an exception does (R280): trap entry or error mode, by ET. -/
theorem takeTrap_cases (e : Exc) (s : State) :
    (s.psr.et = true ∧ takeTrap e s = trapEntry (trapType e) s) ∨
    (s.psr.et = false ∧ takeTrap e s = enterErrorMode s) := by
  unfold takeTrap
  cases h : s.psr.et <;> simp

theorem takeTrap_of_enabled {e : Exc} {s : State} (h : s.psr.et = true) :
    takeTrap e s = trapEntry (trapType e) s := by simp [takeTrap, h]

theorem takeTrap_of_disabled {e : Exc} {s : State} (h : s.psr.et = false) :
    takeTrap e s = enterErrorMode s := by simp [takeTrap, h]

@[simp] theorem takeTrap_mem (e : Exc) (s : State) : (takeTrap e s).mem = s.mem := by
  unfold takeTrap; split <;> simp
@[simp] theorem takeTrap_g (e : Exc) (s : State) : (takeTrap e s).g = s.g := by
  unfold takeTrap; split <;> simp
@[simp] theorem takeTrap_y (e : Exc) (s : State) : (takeTrap e s).y = s.y := by
  unfold takeTrap; split <;> simp
@[simp] theorem takeTrap_icc (e : Exc) (s : State) : (takeTrap e s).psr.icc = s.psr.icc := by
  unfold takeTrap; split <;> simp [psrTrap]

/-! ## The shared operations of the meanings -/

/-- A load answers one of two ways (R91). -/
theorem loadWith_cases {p : Params} {n : Nat} {al : Word → Bool} {value : Memory → Word → Word}
    {rd ro1 : Reg} {o : Operand2} {s t : State}
    (h : loadWith p n al value rd ro1 o s = .next t) :
    (∃ e, t = takeTrap e s) ∨
    (∃ a, dataAddress p s (s.dir ro1 o) n .load (al (s.dir ro1 o)) = .ok a ∧
      t = (s.setReg rd (value s.mem a)).advance) := by
  unfold loadWith raise at h
  split at h
  · exact .inl ⟨_, by simpa using h.symm⟩
  · exact .inr ⟨_, ‹_›, by simpa using h.symm⟩

/-- A store answers one of two ways (R91). -/
theorem storeWith_cases {p : Params} {n : Nat} {al : Word → Bool}
    {store : Memory → Word → Word → Memory} {rd ro1 : Reg} {o : Operand2} {s t : State}
    (h : storeWith p n al store rd ro1 o s = .next t) :
    (∃ e, t = takeTrap e s) ∨
    (∃ a, dataAddress p s (s.dir ro1 o) n .store (al (s.dir ro1 o)) = .ok a ∧
      t = { s with mem := store s.mem a (s.reg rd) }.advance) := by
  unfold storeWith raise at h
  split at h
  · exact .inl ⟨_, by simpa using h.symm⟩
  · exact .inr ⟨_, ‹_›, by simpa using h.symm⟩

theorem aluWrite_next {rd : Reg} {r : Word} {s t : State} (h : aluWrite rd r s = .next t) :
    t = (s.setReg rd r).advance := by simpa [aluWrite] using h.symm

theorem aluWriteCc_next {rd : Reg} {r : Word} {f : Icc} {s t : State}
    (h : aluWriteCc rd r f s = .next t) : t = ((s.setReg rd r).setIcc f).advance := by
  simpa [aluWriteCc] using h.symm

/-- A division raises `DivisionByZero`, or writes a quotient, a remainder and flags (R121 to R123). -/
theorem divideWith_cases {sg : Bool} {divide : Word → Word → Word → Option (Word × Word)} {cc : Bool}
    {rd : Reg} {a b : Word} {s t : State} (h : divideWith sg divide cc rd a b s = .next t) :
    (b = 0#32 ∧ t = takeTrap .divisionByZero s) ∨
    (∃ q rem, divide s.y a b = some (q, rem) ∧ t = divWrite cc rd q rem (flagsDiv q) s) ∨
    (divide s.y a b = none ∧
      t = divWrite cc rd (Config.divOverflow sg s.y a b).quot (Config.divOverflow sg s.y a b).rem
        (flagsDivOverflow (Config.divOverflow sg s.y a b)) s) := by
  unfold divideWith raise at h
  split at h
  · exact .inl ⟨‹_›, by simpa using h.symm⟩
  · split at h
    · exact .inr (.inl ⟨_, _, ‹_›, by simpa using h.symm⟩)
    · exact .inr (.inr ⟨‹_›, by simpa using h.symm⟩)

/-- A relative branch transfers, or advances, and may annul the next instruction (R170, R171). -/
theorem branchWith_cases {p : Params} {cond : BitVec 4} {a : Bool} {d : BitVec 22} {s t : State}
    (h : branchWith p cond a d s = .next t) :
    (condTaken cond s.psr.icc = true ∧
      t = (s.transfer (s.branchOrigin p + offset22 d)).annulNextIf
        (a && p.baAnnuls && cond == 0b1000#4)) ∨
    (condTaken cond s.psr.icc = false ∧ t = s.advance.annulNextIf a) := by
  unfold branchWith at h
  split at h
  · exact .inl ⟨‹_›, by simpa using h.symm⟩
  · exact .inr ⟨Bool.eq_false_of_not_eq_true ‹_›, by simpa using h.symm⟩

/-- `jmp` transfers to an aligned target, or raises (R200). -/
theorem jmpWith_cases {p : Params} {rd ro1 : Reg} {o : Operand2} {s t : State}
    (h : jmpWith p rd ro1 o s = .next t) :
    (isWordAligned (s.dir ro1 o) = true ∧
      ∃ link, t = (s.setReg rd link).transfer (s.dir ro1 o)) ∨
    (isWordAligned (s.dir ro1 o) = false ∧ t = takeTrap (.memAddressNotAligned (s.dir ro1 o)) s) := by
  unfold jmpWith raise at h
  split at h
  · exact .inl ⟨‹_›, _, by simpa using h.symm⟩
  · exact .inr ⟨Bool.eq_false_of_not_eq_true ‹_›, by simpa using h.symm⟩

/-- `rett` returns to an aligned target, or raises (R203, R286, R287). -/
theorem rettWith_cases {p : Params} {ro1 : Reg} {o : Operand2} {s t : State}
    (h : rettWith p ro1 o s = .next t) :
    (isWordAligned (s.dir ro1 o) = true ∧ t = returnFromTrap (s.dir ro1 o) s) ∨
    (∃ e, t = takeTrap e s) := by
  unfold rettWith raise at h
  split at h
  · exact .inr ⟨_, by simpa using h.symm⟩
  · split at h
    · exact .inr ⟨_, by simpa using h.symm⟩
    · split at h
      · exact .inl ⟨‹_›, by simpa using h.symm⟩
      · exact .inr ⟨_, by simpa using h.symm⟩

theorem callWith_next {p : Params} {d : BitVec 30} {s t : State} (h : callWith p d s = .next t) :
    t = (s.setReg 15#5 s.pc).transfer (s.branchOrigin p + offset30 d) := by
  simpa [callWith] using h.symm

/-- `restore` moves the window up, or raises (R216, R287). -/
theorem restoreWith_cases {p : Params} {rd ro1 : Reg} {o : Operand2} {s t : State}
    (h : restoreWith p rd ro1 o s = .next t) :
    (t = ((s.setCwp (s.psr.cwp + 1#5)).setReg rd (s.reg ro1 + s.operand2 o)).advance) ∨
    (windowTrapped p s (s.psr.cwp + 1#5) = true ∧ t = takeTrap .windowUnderflow s) := by
  unfold restoreWith raise at h
  split at h
  · exact .inr ⟨‹_›, by simpa using h.symm⟩
  · exact .inl (by simpa using h.symm)

/-- `save` moves the window down, or raises (R217, R287). -/
theorem saveWith_cases {p : Params} {rd ro1 : Reg} {o : Operand2} {s t : State}
    (h : saveWith p rd ro1 o s = .next t) :
    (t = ((s.setCwp (s.psr.cwp - 1#5)).setReg rd (s.reg ro1 + s.operand2 o)).advance) ∨
    (windowTrapped p s (s.psr.cwp - 1#5) = true ∧ t = takeTrap .windowOverflow s) := by
  unfold saveWith raise at h
  split at h
  · exact .inr ⟨‹_›, by simpa using h.symm⟩
  · exact .inl (by simpa using h.symm)

/-- A trap instruction raises where its condition holds, and advances where not (R226, R227). -/
theorem trapIf_cases {cond : BitVec 4} {ro1 : Reg} {o : Operand2} {s t : State}
    (h : trapIf cond ro1 o s = .next t) :
    (condTaken cond s.psr.icc = true ∧ t = takeTrap (.trapInstruction (trapNumber s ro1 o)) s) ∨
    (condTaken cond s.psr.icc = false ∧ t = s.advance) := by
  unfold trapIf raise at h
  split at h
  · exact .inl ⟨‹_›, by simpa using h.symm⟩
  · exact .inr ⟨Bool.eq_false_of_not_eq_true ‹_›, by simpa using h.symm⟩

/-- A state-register read writes `rd`, or raises (R253, R286). -/
theorem rdWith_cases {p : Params} {r : StateReg} {rd : Reg} {s t : State} (h : rdWith p r rd s = .next t) :
    (t = (s.setReg rd (s.readStateReg r)).advance) ∨
    (r ≠ .y ∧ privilegeViolated p s = true ∧ t = takeTrap .privilegedInstruction s) := by
  unfold rdWith raise at h
  split at h
  · exact .inr ⟨by rintro rfl; simp [StateReg.isReserved] at *, by simp_all, by simpa using h.symm⟩
  · exact .inl (by simpa using h.symm)

/-- A state-register write writes that register, or raises (R261, R286). -/
theorem wrWith_cases {p : Params} {r : StateReg} {ro1 : Reg} {o : Operand2} {s t : State}
    (h : wrWith p r ro1 o s = .next t) :
    (t = (s.writeStateReg r (s.wrValue ro1 o)).advance) ∨
    (r ≠ .y ∧ privilegeViolated p s = true ∧ t = takeTrap .privilegedInstruction s) := by
  unfold wrWith raise at h
  split at h
  · exact .inr ⟨by rintro rfl; simp [StateReg.isReserved] at *, by simp_all, by simpa using h.symm⟩
  · exact .inl (by simpa using h.symm)

/-! ## The step -/

/-- All that a step can do from a state it does not fault in: an annulled slot passes (R29), the fetch
or the decoder raises (R282, R288), or the fetched instruction executes. -/
theorem step_cases {s t : State} (h : step s = .next t) :
    s.errorMode = false ∧
    ((s.annul = true ∧ t = s.annulledStep) ∨
     (s.annul = false ∧ ∃ e, fetchInstr settings s = .error e ∧ t = takeTrap e s) ∨
     (s.annul = false ∧ ∃ i, fetchInstr settings s = .ok i ∧ exec i s = .next t)) := by
  unfold step raise at h
  split at h
  · cases h
  · refine ⟨Bool.eq_false_of_not_eq_true ‹_›, ?_⟩
    split at h
    · exact .inl ⟨‹_›, by simpa using h.symm⟩
    · have ha : s.annul = false := Bool.eq_false_of_not_eq_true ‹_›
      split at h
      · exact .inr (.inl ⟨ha, _, ‹_›, by simpa using h.symm⟩)
      · exact .inr (.inr ⟨ha, _, ‹_›, h⟩)

end Sys2Proof.Machine
end

