-- ==== Sys2Proof/Laws/Encoding.lean ====
section
/-! SUPPORT. The fields of the words the encoder writes. -/

namespace Sys2Proof

theorem encodeFormat3_getLsbD (op : BitVec 2) (rd : Reg) (op3 : BitVec 6) (ro1 : Reg)
    (low : BitVec 14) (i : Nat) :
    (encodeFormat3 op rd op3 ro1 low).getLsbD i =
      if i < 14 then low.getLsbD i else if i < 19 then ro1.getLsbD (i - 14)
      else if i < 25 then op3.getLsbD (i - 19) else if i < 30 then rd.getLsbD (i - 25)
      else op.getLsbD (i - 30) := by
  refine (BitVec.getLsbD_append (x := op ++ rd ++ op3 ++ ro1) (y := low)).trans ?_
  split
  · rfl
  refine (BitVec.getLsbD_append (x := op ++ rd ++ op3) (y := ro1)).trans ?_
  split
  · rw [if_pos (by omega)]
  rw [if_neg (by omega)]
  refine (BitVec.getLsbD_append (x := op ++ rd) (y := op3)).trans ?_
  split
  · rw [if_pos (by omega), Nat.sub_sub]
  rw [if_neg (by omega)]
  refine (BitVec.getLsbD_append (x := op) (y := rd)).trans ?_
  split
  · rw [if_pos (by omega), Nat.sub_sub, Nat.sub_sub]
  rw [if_neg (by omega), Nat.sub_sub, Nat.sub_sub, Nat.sub_sub]

theorem encodeFormat2_getLsbD (high : BitVec 5) (op2 : BitVec 3) (imm22 : BitVec 22) (i : Nat) :
    (encodeFormat2 high op2 imm22).getLsbD i =
      if i < 22 then imm22.getLsbD i else if i < 25 then op2.getLsbD (i - 22)
      else if i < 30 then high.getLsbD (i - 25) else false := by
  refine (BitVec.getLsbD_append (x := 0b00#2 ++ high ++ op2) (y := imm22)).trans ?_
  split
  · rfl
  refine (BitVec.getLsbD_append (x := 0b00#2 ++ high) (y := op2)).trans ?_
  split
  · rw [if_pos (by omega)]
  rw [if_neg (by omega)]
  refine (BitVec.getLsbD_append (x := 0b00#2) (y := high)).trans ?_
  split
  · rw [if_pos (by omega), Nat.sub_sub]
  rw [if_neg (by omega)]
  simp

theorem encodeCall_getLsbD (disp30 : BitVec 30) (i : Nat) :
    (encode (.call disp30)).getLsbD i =
      if i < 30 then disp30.getLsbD i else (0b01#2).getLsbD (i - 30) :=
  BitVec.getLsbD_append (x := 0b01#2) (y := disp30)

/-! ## The fields of a format 3 word -/

@[simp] theorem fieldOp_encodeFormat3 (op : BitVec 2) (rd : Reg) (op3 : BitVec 6) (ro1 : Reg)
    (low : BitVec 14) :
    fieldOp (encodeFormat3 op rd op3 ro1 low) = op := by
  apply BitVec.eq_of_getLsbD_eq
  intro i hi
  rw [fieldOp, BitVec.getLsbD_extractLsb', encodeFormat3_getLsbD, if_neg (by omega), if_neg (by omega), if_neg (by omega), if_neg (by omega)]
  simp [hi]

@[simp] theorem fieldRd_encodeFormat3 (op : BitVec 2) (rd : Reg) (op3 : BitVec 6) (ro1 : Reg)
    (low : BitVec 14) :
    fieldRd (encodeFormat3 op rd op3 ro1 low) = rd := by
  apply BitVec.eq_of_getLsbD_eq
  intro i hi
  rw [fieldRd, BitVec.getLsbD_extractLsb', encodeFormat3_getLsbD, if_neg (by omega), if_neg (by omega), if_neg (by omega), if_pos (by omega)]
  simp [hi]

@[simp] theorem fieldOp3_encodeFormat3 (op : BitVec 2) (rd : Reg) (op3 : BitVec 6) (ro1 : Reg)
    (low : BitVec 14) :
    fieldOp3 (encodeFormat3 op rd op3 ro1 low) = op3 := by
  apply BitVec.eq_of_getLsbD_eq
  intro i hi
  rw [fieldOp3, BitVec.getLsbD_extractLsb', encodeFormat3_getLsbD, if_neg (by omega), if_neg (by omega), if_pos (by omega)]
  simp [hi]

@[simp] theorem fieldRo1_encodeFormat3 (op : BitVec 2) (rd : Reg) (op3 : BitVec 6) (ro1 : Reg)
    (low : BitVec 14) :
    fieldRo1 (encodeFormat3 op rd op3 ro1 low) = ro1 := by
  apply BitVec.eq_of_getLsbD_eq
  intro i hi
  rw [fieldRo1, BitVec.getLsbD_extractLsb', encodeFormat3_getLsbD, if_neg (by omega), if_pos (by omega)]
  simp [hi]

@[simp] theorem fieldI_encodeFormat3 (op : BitVec 2) (rd : Reg) (op3 : BitVec 6) (ro1 : Reg)
    (low : BitVec 14) :
    fieldI (encodeFormat3 op rd op3 ro1 low) = low.extractLsb' 13 1 := by
  apply BitVec.eq_of_getLsbD_eq
  intro i hi
  rw [fieldI, BitVec.getLsbD_extractLsb', encodeFormat3_getLsbD, if_pos (by omega)]
  simp [hi]

@[simp] theorem fieldCero8_encodeFormat3 (op : BitVec 2) (rd : Reg) (op3 : BitVec 6) (ro1 : Reg)
    (low : BitVec 14) :
    fieldCero8 (encodeFormat3 op rd op3 ro1 low) = low.extractLsb' 5 8 := by
  apply BitVec.eq_of_getLsbD_eq
  intro i hi
  rw [fieldCero8, BitVec.getLsbD_extractLsb', encodeFormat3_getLsbD, if_pos (by omega)]
  simp [hi]

@[simp] theorem fieldCero14_encodeFormat3 (op : BitVec 2) (rd : Reg) (op3 : BitVec 6) (ro1 : Reg)
    (low : BitVec 14) :
    fieldCero14 (encodeFormat3 op rd op3 ro1 low) = low.extractLsb' 0 14 := by
  apply BitVec.eq_of_getLsbD_eq
  intro i hi
  rw [fieldCero14, BitVec.getLsbD_extractLsb', encodeFormat3_getLsbD, if_pos (by omega)]
  simp [hi]

@[simp] theorem fieldRo2_encodeFormat3 (op : BitVec 2) (rd : Reg) (op3 : BitVec 6) (ro1 : Reg)
    (low : BitVec 14) :
    fieldRo2 (encodeFormat3 op rd op3 ro1 low) = low.extractLsb' 0 5 := by
  apply BitVec.eq_of_getLsbD_eq
  intro i hi
  rw [fieldRo2, BitVec.getLsbD_extractLsb', encodeFormat3_getLsbD, if_pos (by omega)]
  simp [hi]

@[simp] theorem fieldSimm13_encodeFormat3 (op : BitVec 2) (rd : Reg) (op3 : BitVec 6) (ro1 : Reg)
    (low : BitVec 14) :
    fieldSimm13 (encodeFormat3 op rd op3 ro1 low) = low.extractLsb' 0 13 := by
  apply BitVec.eq_of_getLsbD_eq
  intro i hi
  rw [fieldSimm13, BitVec.getLsbD_extractLsb', encodeFormat3_getLsbD, if_pos (by omega)]
  simp [hi]

/-! ## The fields of a format 2 word -/

@[simp] theorem fieldOp_encodeFormat2 (high : BitVec 5) (op2 : BitVec 3) (imm22 : BitVec 22) :
    fieldOp (encodeFormat2 high op2 imm22) = 0b00#2 := by
  apply BitVec.eq_of_getLsbD_eq
  intro i hi
  rw [fieldOp, BitVec.getLsbD_extractLsb', encodeFormat2_getLsbD, if_neg (by omega), if_neg (by omega), if_neg (by omega)]
  simp [hi]

@[simp] theorem fieldRd_encodeFormat2 (high : BitVec 5) (op2 : BitVec 3) (imm22 : BitVec 22) :
    fieldRd (encodeFormat2 high op2 imm22) = high := by
  apply BitVec.eq_of_getLsbD_eq
  intro i hi
  rw [fieldRd, BitVec.getLsbD_extractLsb', encodeFormat2_getLsbD, if_neg (by omega), if_neg (by omega), if_pos (by omega)]
  simp [hi]

@[simp] theorem fieldOp2_encodeFormat2 (high : BitVec 5) (op2 : BitVec 3) (imm22 : BitVec 22) :
    fieldOp2 (encodeFormat2 high op2 imm22) = op2 := by
  apply BitVec.eq_of_getLsbD_eq
  intro i hi
  rw [fieldOp2, BitVec.getLsbD_extractLsb', encodeFormat2_getLsbD, if_neg (by omega), if_pos (by omega)]
  simp [hi]

@[simp] theorem fieldImm22_encodeFormat2 (high : BitVec 5) (op2 : BitVec 3) (imm22 : BitVec 22) :
    fieldImm22 (encodeFormat2 high op2 imm22) = imm22 := by
  apply BitVec.eq_of_getLsbD_eq
  intro i hi
  rw [fieldImm22, BitVec.getLsbD_extractLsb', encodeFormat2_getLsbD, if_pos (by omega)]
  simp [hi]

/-! ## The fields of a `call` word -/

@[simp] theorem fieldOp_encodeCall (disp30 : BitVec 30) : fieldOp (encode (.call disp30)) = 0b01#2 := by
  apply BitVec.eq_of_getLsbD_eq
  intro i hi
  rw [fieldOp, BitVec.getLsbD_extractLsb', encodeCall_getLsbD, if_neg (by omega)]
  simp [hi]

@[simp] theorem fieldDisp30_encodeCall (disp30 : BitVec 30) :
    fieldDisp30 (encode (.call disp30)) = disp30 := by
  apply BitVec.eq_of_getLsbD_eq
  intro i hi
  rw [fieldDisp30, BitVec.getLsbD_extractLsb', encodeCall_getLsbD, if_pos (by omega)]
  simp [hi]

/-! ## Bits 29 and 28:25 -/

theorem fieldA_eq (w : Word) : fieldA w = (fieldRd w).extractLsb' 4 1 := by
  apply BitVec.eq_of_getLsbD_eq
  intro i hi
  simp only [fieldA, fieldRd, BitVec.getLsbD_extractLsb', hi, decide_true, Bool.true_and,
    show 4 + i < 5 by omega, ← Nat.add_assoc]

theorem fieldCond_eq (w : Word) : fieldCond w = (fieldRd w).extractLsb' 0 4 := by
  apply BitVec.eq_of_getLsbD_eq
  intro i hi
  simp only [fieldCond, fieldRd, BitVec.getLsbD_extractLsb', hi, decide_true, Bool.true_and,
    Nat.zero_add, show i < 5 by omega]

theorem bit4_append (a : BitVec 1) (cond : BitVec 4) : (a ++ cond).extractLsb' 4 1 = a := by
  revert a cond; decide

theorem bits3_append (a : BitVec 1) (cond : BitVec 4) : (a ++ cond).extractLsb' 0 4 = cond := by
  revert a cond; decide

@[simp] theorem fieldA_encodeFormat3 (op : BitVec 2) (a : BitVec 1) (cond : BitVec 4) (op3 : BitVec 6)
    (ro1 : Reg) (low : BitVec 14) : fieldA (encodeFormat3 op (a ++ cond) op3 ro1 low) = a := by
  rw [fieldA_eq, fieldRd_encodeFormat3]; exact bit4_append a cond

@[simp] theorem fieldCond_encodeFormat3 (op : BitVec 2) (a : BitVec 1) (cond : BitVec 4)
    (op3 : BitVec 6) (ro1 : Reg) (low : BitVec 14) :
    fieldCond (encodeFormat3 op (a ++ cond) op3 ro1 low) = cond := by
  rw [fieldCond_eq, fieldRd_encodeFormat3]; exact bits3_append a cond

@[simp] theorem fieldA_encodeFormat2 (a : BitVec 1) (cond : BitVec 4) (op2 : BitVec 3)
    (imm22 : BitVec 22) : fieldA (encodeFormat2 (a ++ cond) op2 imm22) = a := by
  rw [fieldA_eq, fieldRd_encodeFormat2]; exact bit4_append a cond

@[simp] theorem fieldCond_encodeFormat2 (a : BitVec 1) (cond : BitVec 4) (op2 : BitVec 3)
    (imm22 : BitVec 22) : fieldCond (encodeFormat2 (a ++ cond) op2 imm22) = cond := by
  rw [fieldCond_eq, fieldRd_encodeFormat2]; exact bits3_append a cond

/-! ## The low 14 bits -/

@[simp] theorem encodeOperand2_reg_i (r : Reg) :
    (encodeOperand2 (.reg r)).extractLsb' 13 1 = 0b0#1 := by revert r; decide

@[simp] theorem encodeOperand2_reg_cero (r : Reg) :
    (encodeOperand2 (.reg r)).extractLsb' 5 8 = 0#8 := by revert r; decide

@[simp] theorem encodeOperand2_reg_ro2 (r : Reg) :
    (encodeOperand2 (.reg r)).extractLsb' 0 5 = r := by revert r; decide

theorem encodeOperand2_imm_getLsbD (c : BitVec 13) (i : Nat) :
    (encodeOperand2 (.imm c)).getLsbD i = if i < 13 then c.getLsbD i else (0b1#1).getLsbD (i - 13) :=
  BitVec.getLsbD_append (x := 0b1#1) (y := c)

@[simp] theorem encodeOperand2_imm_i (c : BitVec 13) :
    (encodeOperand2 (.imm c)).extractLsb' 13 1 = 0b1#1 := by
  apply BitVec.eq_of_getLsbD_eq
  intro i hi
  rw [BitVec.getLsbD_extractLsb', encodeOperand2_imm_getLsbD, if_neg (by omega)]
  simp [hi]

@[simp] theorem encodeOperand2_imm_simm13 (c : BitVec 13) :
    (encodeOperand2 (.imm c)).extractLsb' 0 13 = c := by
  apply BitVec.eq_of_getLsbD_eq
  intro i hi
  rw [BitVec.getLsbD_extractLsb', encodeOperand2_imm_getLsbD, if_pos (by omega)]
  simp [hi]

@[simp] theorem encodeCount_reg_i (r : Reg) :
    (encodeCount (.reg r)).extractLsb' 13 1 = 0b0#1 := by revert r; decide

@[simp] theorem encodeCount_reg_cero (r : Reg) :
    (encodeCount (.reg r)).extractLsb' 5 8 = 0#8 := by revert r; decide

@[simp] theorem encodeCount_reg_ro2 (r : Reg) :
    (encodeCount (.reg r)).extractLsb' 0 5 = r := by revert r; decide

@[simp] theorem encodeCount_imm_i (c : BitVec 5) :
    (encodeCount (.imm c)).extractLsb' 13 1 = 0b1#1 := by revert c; decide

@[simp] theorem encodeCount_imm_const5 (c : BitVec 5) :
    (encodeCount (.imm c)).extractLsb' 0 5 = c := by revert c; decide

/-! ## Operands read back -/

@[simp] theorem decodeOperand2_encodeFormat3 (op : BitVec 2) (rd : Reg) (op3 : BitVec 6) (ro1 : Reg)
    (o : Operand2) : decodeOperand2 (encodeFormat3 op rd op3 ro1 (encodeOperand2 o)) = .ok o := by
  cases o <;> simp [decodeOperand2]

@[simp] theorem decodeCount_encodeFormat3 (op : BitVec 2) (rd : Reg) (op3 : BitVec 6) (ro1 : Reg)
    (o : ShiftCount) : decodeCount (encodeFormat3 op rd op3 ro1 (encodeCount o)) = .ok o := by
  cases o <;> simp [decodeCount]

/-! ## Masks -/

/-- Masking a format 3 word is masking its fields. -/
theorem encodeFormat3_and (op : BitVec 2) (rd : Reg) (op3 : BitVec 6) (ro1 : Reg) (low : BitVec 14)
    (m : Word) :
    encodeFormat3 op rd op3 ro1 low &&& m =
      encodeFormat3 (op &&& fieldOp m) (rd &&& fieldRd m) (op3 &&& fieldOp3 m) (ro1 &&& fieldRo1 m)
        (low &&& fieldCero14 m) := by
  apply BitVec.eq_of_getLsbD_eq
  intro i hi
  simp only [BitVec.getLsbD_and, encodeFormat3_getLsbD, fieldOp, fieldRd, fieldOp3, fieldRo1,
    fieldCero14, BitVec.getLsbD_extractLsb']
  have key : ∀ lo n : Nat, lo ≤ i → i < lo + n →
      (decide (i - lo < n) && m.getLsbD (lo + (i - lo))) = m.getLsbD i := fun lo n h h' => by
    rw [Nat.add_sub_cancel' h, decide_eq_true (by omega), Bool.true_and]
  split
  · rw [Nat.zero_add, decide_eq_true (by omega), Bool.true_and]
  split
  · rw [key 14 5 (by omega) (by omega)]
  split
  · rw [key 19 6 (by omega) (by omega)]
  split
  · rw [key 25 5 (by omega) (by omega)]
  · rw [key 30 2 (by omega) (by omega)]

/-- Masking a format 2 word is masking its fields. -/
theorem encodeFormat2_and (high : BitVec 5) (op2 : BitVec 3) (imm : BitVec 22) (m : Word) :
    encodeFormat2 high op2 imm &&& m =
      encodeFormat2 (high &&& fieldRd m) (op2 &&& fieldOp2 m) (imm &&& fieldImm22 m) := by
  apply BitVec.eq_of_getLsbD_eq
  intro i hi
  simp only [BitVec.getLsbD_and, encodeFormat2_getLsbD, fieldRd, fieldOp2, fieldImm22,
    BitVec.getLsbD_extractLsb']
  have key : ∀ lo n : Nat, lo ≤ i → i < lo + n →
      (decide (i - lo < n) && m.getLsbD (lo + (i - lo))) = m.getLsbD i := fun lo n h h' => by
    rw [Nat.add_sub_cancel' h, decide_eq_true (by omega), Bool.true_and]
  split
  · rw [Nat.zero_add, decide_eq_true (by omega), Bool.true_and]
  split
  · rw [key 22 3 (by omega) (by omega)]
  split
  · rw [key 25 5 (by omega) (by omega)]
  · rfl

end Sys2Proof
end

