-- ==== Sys2Proof/Laws/Flags.lean ====
section
/-! SUPPORT. What each of the sixteen `cond` values reads of N, Z, V and C (R172). -/

namespace Sys2Proof.Machine

@[simp] theorem condTaken_never (f : Icc) : condTaken 0b0000#4 f = false :=
  rfl
@[simp] theorem condTaken_equal (f : Icc) : condTaken 0b0001#4 f = f.z :=
  Bool.false_xor _
@[simp] theorem condTaken_lessEqual (f : Icc) : condTaken 0b0010#4 f = (f.z || (f.n ^^ f.v)) :=
  Bool.false_xor _
@[simp] theorem condTaken_less (f : Icc) : condTaken 0b0011#4 f = (f.n ^^ f.v) :=
  Bool.false_xor _
@[simp] theorem condTaken_lessEqualUnsigned (f : Icc) : condTaken 0b0100#4 f = (f.c || f.z) :=
  Bool.false_xor _
@[simp] theorem condTaken_carrySet (f : Icc) : condTaken 0b0101#4 f = f.c :=
  Bool.false_xor _
@[simp] theorem condTaken_negative (f : Icc) : condTaken 0b0110#4 f = f.n :=
  Bool.false_xor _
@[simp] theorem condTaken_overflowSet (f : Icc) : condTaken 0b0111#4 f = f.v :=
  Bool.false_xor _
@[simp] theorem condTaken_always (f : Icc) : condTaken 0b1000#4 f = true :=
  rfl
@[simp] theorem condTaken_notEqual (f : Icc) : condTaken 0b1001#4 f = (!f.z) :=
  Bool.true_xor _
@[simp] theorem condTaken_greater (f : Icc) : condTaken 0b1010#4 f = (!(f.z || (f.n ^^ f.v))) :=
  Bool.true_xor _
@[simp] theorem condTaken_greaterEqual (f : Icc) : condTaken 0b1011#4 f = (!(f.n ^^ f.v)) :=
  Bool.true_xor _
@[simp] theorem condTaken_greaterUnsigned (f : Icc) : condTaken 0b1100#4 f = (!(f.c || f.z)) :=
  Bool.true_xor _
@[simp] theorem condTaken_carryClear (f : Icc) : condTaken 0b1101#4 f = (!f.c) :=
  Bool.true_xor _
@[simp] theorem condTaken_positive (f : Icc) : condTaken 0b1110#4 f = (!f.n) :=
  Bool.true_xor _
@[simp] theorem condTaken_overflowClear (f : Icc) : condTaken 0b1111#4 f = (!f.v) :=
  Bool.true_xor _

end Sys2Proof.Machine
end

