-- ==== Sys2Proof/Laws/PerInstr.lean ====
section
/-! SUPPORT. Statements made for each instruction: the word the encoder writes matches the row of
`spec/opcode_table.json` for its operand form (R79). The masks and values below are the table's. -/

namespace Sys2Proof.Laws

/-- A mask and the bits under it. -/
structure RowPattern where
  mask : Word
  value : Word
  deriving DecidableEq, Repr

/-- The row of the register form or of the immediate form. -/
def ofOperand (o : Operand2) (reg imm : RowPattern) : RowPattern :=
  match o with
  | .reg _ => reg
  | .imm _ => imm

/-- The row of the register form or of the immediate form of a shift. -/
def ofCount (o : ShiftCount) (reg imm : RowPattern) : RowPattern :=
  match o with
  | .reg _ => reg
  | .imm _ => imm

/-- The row of the table an instruction belongs to. -/
def rowPattern (i : Instr) : RowPattern :=
  match i with
  | .stb _ _ o => ofOperand o ⟨0xC1F83FE0#32, 0xC0280000#32⟩ ⟨0xC1F82000#32, 0xC0282000#32⟩
  | .sth _ _ o => ofOperand o ⟨0xC1F83FE0#32, 0xC0300000#32⟩ ⟨0xC1F82000#32, 0xC0302000#32⟩
  | .st _ _ o => ofOperand o ⟨0xC1F83FE0#32, 0xC0200000#32⟩ ⟨0xC1F82000#32, 0xC0202000#32⟩
  | .ldsb _ _ o => ofOperand o ⟨0xC1F83FE0#32, 0xC0480000#32⟩ ⟨0xC1F82000#32, 0xC0482000#32⟩
  | .ldsh _ _ o => ofOperand o ⟨0xC1F83FE0#32, 0xC0500000#32⟩ ⟨0xC1F82000#32, 0xC0502000#32⟩
  | .ldub _ _ o => ofOperand o ⟨0xC1F83FE0#32, 0xC0080000#32⟩ ⟨0xC1F82000#32, 0xC0082000#32⟩
  | .lduh _ _ o => ofOperand o ⟨0xC1F83FE0#32, 0xC0100000#32⟩ ⟨0xC1F82000#32, 0xC0102000#32⟩
  | .ld _ _ o => ofOperand o ⟨0xC1F83FE0#32, 0xC0000000#32⟩ ⟨0xC1F82000#32, 0xC0002000#32⟩
  | .sethi _ _ => ⟨0xC1C00000#32, 0x01000000#32⟩
  | .add _ _ o => ofOperand o ⟨0xC1F83FE0#32, 0x80000000#32⟩ ⟨0xC1F82000#32, 0x80002000#32⟩
  | .addcc _ _ o => ofOperand o ⟨0xC1F83FE0#32, 0x80800000#32⟩ ⟨0xC1F82000#32, 0x80802000#32⟩
  | .and _ _ o => ofOperand o ⟨0xC1F83FE0#32, 0x80080000#32⟩ ⟨0xC1F82000#32, 0x80082000#32⟩
  | .andcc _ _ o => ofOperand o ⟨0xC1F83FE0#32, 0x80880000#32⟩ ⟨0xC1F82000#32, 0x80882000#32⟩
  | .andn _ _ o => ofOperand o ⟨0xC1F83FE0#32, 0x80280000#32⟩ ⟨0xC1F82000#32, 0x80282000#32⟩
  | .andncc _ _ o => ofOperand o ⟨0xC1F83FE0#32, 0x80A80000#32⟩ ⟨0xC1F82000#32, 0x80A82000#32⟩
  | .or _ _ o => ofOperand o ⟨0xC1F83FE0#32, 0x80100000#32⟩ ⟨0xC1F82000#32, 0x80102000#32⟩
  | .orcc _ _ o => ofOperand o ⟨0xC1F83FE0#32, 0x80900000#32⟩ ⟨0xC1F82000#32, 0x80902000#32⟩
  | .orn _ _ o => ofOperand o ⟨0xC1F83FE0#32, 0x80300000#32⟩ ⟨0xC1F82000#32, 0x80302000#32⟩
  | .orncc _ _ o => ofOperand o ⟨0xC1F83FE0#32, 0x80B00000#32⟩ ⟨0xC1F82000#32, 0x80B02000#32⟩
  | .udiv _ _ o => ofOperand o ⟨0xC1F83FE0#32, 0x80700000#32⟩ ⟨0xC1F82000#32, 0x80702000#32⟩
  | .udivcc _ _ o => ofOperand o ⟨0xC1F83FE0#32, 0x80F00000#32⟩ ⟨0xC1F82000#32, 0x80F02000#32⟩
  | .umul _ _ o => ofOperand o ⟨0xC1F83FE0#32, 0x80500000#32⟩ ⟨0xC1F82000#32, 0x80502000#32⟩
  | .umulcc _ _ o => ofOperand o ⟨0xC1F83FE0#32, 0x80D00000#32⟩ ⟨0xC1F82000#32, 0x80D02000#32⟩
  | .sdiv _ _ o => ofOperand o ⟨0xC1F83FE0#32, 0x80780000#32⟩ ⟨0xC1F82000#32, 0x80782000#32⟩
  | .sdivcc _ _ o => ofOperand o ⟨0xC1F83FE0#32, 0x80F80000#32⟩ ⟨0xC1F82000#32, 0x80F82000#32⟩
  | .smul _ _ o => ofOperand o ⟨0xC1F83FE0#32, 0x80580000#32⟩ ⟨0xC1F82000#32, 0x80582000#32⟩
  | .smulcc _ _ o => ofOperand o ⟨0xC1F83FE0#32, 0x80D80000#32⟩ ⟨0xC1F82000#32, 0x80D82000#32⟩
  | .sub _ _ o => ofOperand o ⟨0xC1F83FE0#32, 0x80200000#32⟩ ⟨0xC1F82000#32, 0x80202000#32⟩
  | .subcc _ _ o => ofOperand o ⟨0xC1F83FE0#32, 0x80A00000#32⟩ ⟨0xC1F82000#32, 0x80A02000#32⟩
  | .xor _ _ o => ofOperand o ⟨0xC1F83FE0#32, 0x80180000#32⟩ ⟨0xC1F82000#32, 0x80182000#32⟩
  | .xorcc _ _ o => ofOperand o ⟨0xC1F83FE0#32, 0x80980000#32⟩ ⟨0xC1F82000#32, 0x80982000#32⟩
  | .xnor _ _ o => ofOperand o ⟨0xC1F83FE0#32, 0x80380000#32⟩ ⟨0xC1F82000#32, 0x80382000#32⟩
  | .xnorcc _ _ o => ofOperand o ⟨0xC1F83FE0#32, 0x80B80000#32⟩ ⟨0xC1F82000#32, 0x80B82000#32⟩
  | .sll _ _ o => ofCount o ⟨0xC1F83FE0#32, 0x81280000#32⟩ ⟨0xC1F82000#32, 0x81282000#32⟩
  | .sra _ _ o => ofCount o ⟨0xC1F83FE0#32, 0x81380000#32⟩ ⟨0xC1F82000#32, 0x81382000#32⟩
  | .srl _ _ o => ofCount o ⟨0xC1F83FE0#32, 0x81300000#32⟩ ⟨0xC1F82000#32, 0x81302000#32⟩
  | .bn _ _ => ⟨0xDFC00000#32, 0x00800000#32⟩
  | .ba _ _ => ⟨0xDFC00000#32, 0x10800000#32⟩
  | .be _ _ => ⟨0xDFC00000#32, 0x02800000#32⟩
  | .bne _ _ => ⟨0xDFC00000#32, 0x12800000#32⟩
  | .ble _ _ => ⟨0xDFC00000#32, 0x04800000#32⟩
  | .bg _ _ => ⟨0xDFC00000#32, 0x14800000#32⟩
  | .bl _ _ => ⟨0xDFC00000#32, 0x06800000#32⟩
  | .bge _ _ => ⟨0xDFC00000#32, 0x16800000#32⟩
  | .bleu _ _ => ⟨0xDFC00000#32, 0x08800000#32⟩
  | .bgu _ _ => ⟨0xDFC00000#32, 0x18800000#32⟩
  | .bcs _ _ => ⟨0xDFC00000#32, 0x0A800000#32⟩
  | .bcc _ _ => ⟨0xDFC00000#32, 0x1A800000#32⟩
  | .bneg _ _ => ⟨0xDFC00000#32, 0x0C800000#32⟩
  | .bpos _ _ => ⟨0xDFC00000#32, 0x1C800000#32⟩
  | .bvs _ _ => ⟨0xDFC00000#32, 0x0E800000#32⟩
  | .bvc _ _ => ⟨0xDFC00000#32, 0x1E800000#32⟩
  | .jmp _ _ o => ofOperand o ⟨0xC1F83FE0#32, 0x81C00000#32⟩ ⟨0xC1F82000#32, 0x81C02000#32⟩
  | .rett _ o => ofOperand o ⟨0xFFF83FE0#32, 0x81C80000#32⟩ ⟨0xFFF82000#32, 0x81C82000#32⟩
  | .call _ => ⟨0xC0000000#32, 0x40000000#32⟩
  | .restore _ _ o => ofOperand o ⟨0xC1F83FE0#32, 0x81E80000#32⟩ ⟨0xC1F82000#32, 0x81E82000#32⟩
  | .save _ _ o => ofOperand o ⟨0xC1F83FE0#32, 0x81E00000#32⟩ ⟨0xC1F82000#32, 0x81E02000#32⟩
  | .tn _ o => ofOperand o ⟨0xFFF83FE0#32, 0x81D00000#32⟩ ⟨0xFFF82000#32, 0x81D02000#32⟩
  | .ta _ o => ofOperand o ⟨0xFFF83FE0#32, 0x91D00000#32⟩ ⟨0xFFF82000#32, 0x91D02000#32⟩
  | .te _ o => ofOperand o ⟨0xFFF83FE0#32, 0x83D00000#32⟩ ⟨0xFFF82000#32, 0x83D02000#32⟩
  | .tne _ o => ofOperand o ⟨0xFFF83FE0#32, 0x93D00000#32⟩ ⟨0xFFF82000#32, 0x93D02000#32⟩
  | .tle _ o => ofOperand o ⟨0xFFF83FE0#32, 0x85D00000#32⟩ ⟨0xFFF82000#32, 0x85D02000#32⟩
  | .tg _ o => ofOperand o ⟨0xFFF83FE0#32, 0x95D00000#32⟩ ⟨0xFFF82000#32, 0x95D02000#32⟩
  | .tl _ o => ofOperand o ⟨0xFFF83FE0#32, 0x87D00000#32⟩ ⟨0xFFF82000#32, 0x87D02000#32⟩
  | .tge _ o => ofOperand o ⟨0xFFF83FE0#32, 0x97D00000#32⟩ ⟨0xFFF82000#32, 0x97D02000#32⟩
  | .tleu _ o => ofOperand o ⟨0xFFF83FE0#32, 0x89D00000#32⟩ ⟨0xFFF82000#32, 0x89D02000#32⟩
  | .tgu _ o => ofOperand o ⟨0xFFF83FE0#32, 0x99D00000#32⟩ ⟨0xFFF82000#32, 0x99D02000#32⟩
  | .tcs _ o => ofOperand o ⟨0xFFF83FE0#32, 0x8BD00000#32⟩ ⟨0xFFF82000#32, 0x8BD02000#32⟩
  | .tcc _ o => ofOperand o ⟨0xFFF83FE0#32, 0x9BD00000#32⟩ ⟨0xFFF82000#32, 0x9BD02000#32⟩
  | .tneg _ o => ofOperand o ⟨0xFFF83FE0#32, 0x8DD00000#32⟩ ⟨0xFFF82000#32, 0x8DD02000#32⟩
  | .tpos _ o => ofOperand o ⟨0xFFF83FE0#32, 0x9DD00000#32⟩ ⟨0xFFF82000#32, 0x9DD02000#32⟩
  | .tvs _ o => ofOperand o ⟨0xFFF83FE0#32, 0x8FD00000#32⟩ ⟨0xFFF82000#32, 0x8FD02000#32⟩
  | .tvc _ o => ofOperand o ⟨0xFFF83FE0#32, 0x9FD00000#32⟩ ⟨0xFFF82000#32, 0x9FD02000#32⟩
  | .nop => ⟨0xFFFFFFFF#32, 0x01000000#32⟩
  | .rdY _ => ⟨0xC1FFFFFF#32, 0x81400000#32⟩
  | .rdPsr _ => ⟨0xC1FFFFFF#32, 0x81480000#32⟩
  | .rdWim _ => ⟨0xC1FFFFFF#32, 0x81500000#32⟩
  | .rdTbr _ => ⟨0xC1FFFFFF#32, 0x81580000#32⟩
  | .rdBase _ => ⟨0xC1FFFFFF#32, 0x81404000#32⟩
  | .rdLimite _ => ⟨0xC1FFFFFF#32, 0x81408000#32⟩
  | .wrY _ o => ofOperand o ⟨0xFFF83FE0#32, 0x81800000#32⟩ ⟨0xFFF82000#32, 0x81802000#32⟩
  | .wrPsr _ o => ofOperand o ⟨0xFFF83FE0#32, 0x81880000#32⟩ ⟨0xFFF82000#32, 0x81882000#32⟩
  | .wrWim _ o => ofOperand o ⟨0xFFF83FE0#32, 0x81900000#32⟩ ⟨0xFFF82000#32, 0x81902000#32⟩
  | .wrTbr _ o => ofOperand o ⟨0xFFF83FE0#32, 0x81980000#32⟩ ⟨0xFFF82000#32, 0x81982000#32⟩
  | .wrBase _ o => ofOperand o ⟨0xFFF83FE0#32, 0x83800000#32⟩ ⟨0xFFF82000#32, 0x83802000#32⟩
  | .wrLimite _ o => ofOperand o ⟨0xFFF83FE0#32, 0x85800000#32⟩ ⟨0xFFF82000#32, 0x85802000#32⟩

/-! ## The low 14 bits under the masks of the two forms -/

theorem operand2_reg_mask (r : Reg) : encodeOperand2 (.reg r) &&& 0x3FE0#14 = 0#14 := by
  revert r; decide

theorem operand2_imm_mask (c : BitVec 13) : encodeOperand2 (.imm c) &&& 0x2000#14 = 0x2000#14 := by
  apply BitVec.eq_of_getLsbD_eq
  intro i hi
  rw [BitVec.getLsbD_and, encodeOperand2_imm_getLsbD]
  split
  · have low : ∀ i < 13, (0x2000#14).getLsbD i = false := by decide
    simp [low i ‹_›]
  · obtain rfl : i = 13 := by omega
    rfl

theorem count_reg_mask (r : Reg) : encodeCount (.reg r) &&& 0x3FE0#14 = 0#14 := by
  revert r; decide

theorem count_imm_mask (c : BitVec 5) : encodeCount (.imm c) &&& 0x2000#14 = 0x2000#14 := by
  revert c; decide

theorem annul_cond_mask (a : Bool) (cond : BitVec 4) :
    (BitVec.ofBool a ++ cond) &&& 0b01111#5 = 0b0#1 ++ cond := by
  revert a cond; decide

/-! ## Rows by which fields are operands: `rd` and `ro1`, then `ro1` alone, then `rd` alone -/

theorem row_free_operand2_reg {op : BitVec 2} {rd : Reg} {op3 : BitVec 6} {ro1 : Reg} {r : Reg}
    {m v : Word} (hrd : fieldRd m = 0#5) (hro1 : fieldRo1 m = 0#5) (hl : fieldCero14 m = 0x3FE0#14)
    (hv : encodeFormat3 (op &&& fieldOp m) 0#5 (op3 &&& fieldOp3 m) 0#5 0#14 = v) :
    encodeFormat3 op rd op3 ro1 (encodeOperand2 (.reg r)) &&& m = v := by
  rw [encodeFormat3_and, hrd, hro1, hl, operand2_reg_mask, BitVec.and_zero, BitVec.and_zero, hv]

theorem row_free_operand2_imm {op : BitVec 2} {rd : Reg} {op3 : BitVec 6} {ro1 : Reg} {c : BitVec 13}
    {m v : Word} (hrd : fieldRd m = 0#5) (hro1 : fieldRo1 m = 0#5) (hl : fieldCero14 m = 0x2000#14)
    (hv : encodeFormat3 (op &&& fieldOp m) 0#5 (op3 &&& fieldOp3 m) 0#5 0x2000#14 = v) :
    encodeFormat3 op rd op3 ro1 (encodeOperand2 (.imm c)) &&& m = v := by
  rw [encodeFormat3_and, hrd, hro1, hl, operand2_imm_mask, BitVec.and_zero, BitVec.and_zero, hv]

theorem row_free_count_reg {op : BitVec 2} {rd : Reg} {op3 : BitVec 6} {ro1 : Reg} {r : Reg}
    {m v : Word} (hrd : fieldRd m = 0#5) (hro1 : fieldRo1 m = 0#5) (hl : fieldCero14 m = 0x3FE0#14)
    (hv : encodeFormat3 (op &&& fieldOp m) 0#5 (op3 &&& fieldOp3 m) 0#5 0#14 = v) :
    encodeFormat3 op rd op3 ro1 (encodeCount (.reg r)) &&& m = v := by
  rw [encodeFormat3_and, hrd, hro1, hl, count_reg_mask, BitVec.and_zero, BitVec.and_zero, hv]

theorem row_free_count_imm {op : BitVec 2} {rd : Reg} {op3 : BitVec 6} {ro1 : Reg} {c : BitVec 5}
    {m v : Word} (hrd : fieldRd m = 0#5) (hro1 : fieldRo1 m = 0#5) (hl : fieldCero14 m = 0x2000#14)
    (hv : encodeFormat3 (op &&& fieldOp m) 0#5 (op3 &&& fieldOp3 m) 0#5 0x2000#14 = v) :
    encodeFormat3 op rd op3 ro1 (encodeCount (.imm c)) &&& m = v := by
  rw [encodeFormat3_and, hrd, hro1, hl, count_imm_mask, BitVec.and_zero, BitVec.and_zero, hv]

theorem row_fixed_operand2_reg {op : BitVec 2} {rd : Reg} {op3 : BitVec 6} {ro1 : Reg} {r : Reg}
    {m v : Word} (hro1 : fieldRo1 m = 0#5) (hl : fieldCero14 m = 0x3FE0#14)
    (hv : encodeFormat3 (op &&& fieldOp m) (rd &&& fieldRd m) (op3 &&& fieldOp3 m) 0#5 0#14 = v) :
    encodeFormat3 op rd op3 ro1 (encodeOperand2 (.reg r)) &&& m = v := by
  rw [encodeFormat3_and, hro1, hl, operand2_reg_mask, BitVec.and_zero, hv]

theorem row_fixed_operand2_imm {op : BitVec 2} {rd : Reg} {op3 : BitVec 6} {ro1 : Reg} {c : BitVec 13}
    {m v : Word} (hro1 : fieldRo1 m = 0#5) (hl : fieldCero14 m = 0x2000#14)
    (hv : encodeFormat3 (op &&& fieldOp m) (rd &&& fieldRd m) (op3 &&& fieldOp3 m) 0#5 0x2000#14 = v) :
    encodeFormat3 op rd op3 ro1 (encodeOperand2 (.imm c)) &&& m = v := by
  rw [encodeFormat3_and, hro1, hl, operand2_imm_mask, BitVec.and_zero, hv]

theorem row_read {op : BitVec 2} {rd : Reg} {op3 : BitVec 6} {ro1 : Reg} {low : BitVec 14} {m v : Word}
    (hrd : fieldRd m = 0#5)
    (hv : encodeFormat3 (op &&& fieldOp m) 0#5 (op3 &&& fieldOp3 m) (ro1 &&& fieldRo1 m)
      (low &&& fieldCero14 m) = v) :
    encodeFormat3 op rd op3 ro1 low &&& m = v := by
  rw [encodeFormat3_and, hrd, BitVec.and_zero, hv]

/-- A row of format 2 whose low 22 bits and bits 29:25 are operands. -/
theorem row_sethi {high : BitVec 5} {op2 : BitVec 3} {imm : BitVec 22} {m v : Word}
    (himm : fieldImm22 m = 0#22) (hh : fieldRd m = 0#5)
    (hv : encodeFormat2 0#5 (op2 &&& fieldOp2 m) 0#22 = v) :
    encodeFormat2 high op2 imm &&& m = v := by
  rw [encodeFormat2_and, hh, himm, BitVec.and_zero, BitVec.and_zero, hv]

theorem row_branch {a : Bool} {cond : BitVec 4} {imm : BitVec 22} {m v : Word}
    (himm : fieldImm22 m = 0#22) (hh : fieldRd m = 0b01111#5)
    (hv : encodeFormat2 (0b0#1 ++ cond) (0b010#3 &&& fieldOp2 m) 0#22 = v) :
    encodeBranch cond a imm &&& m = v := by
  rw [encodeBranch, encodeFormat2_and, hh, himm, annul_cond_mask, BitVec.and_zero, hv]

theorem row_call (disp30 : BitVec 30) : encode (.call disp30) &&& 0xC0000000#32 = 0x40000000#32 := by
  apply BitVec.eq_of_getLsbD_eq
  intro i hi
  rw [BitVec.getLsbD_and, encodeCall_getLsbD]
  split
  · have low : ∀ i < 30, (0xC0000000#32).getLsbD i = false ∧ (0x40000000#32).getLsbD i = false := by
      decide
    simp [low i ‹_›]
  · have high : ∀ i < 32, 30 ≤ i → ((0b01#2).getLsbD (i - 30) && (0xC0000000#32).getLsbD i) =
        (0x40000000#32).getLsbD i := by decide
    exact high i hi (by omega)

/-! ## The family -/

/-- The word of `i` matches its row (R79). -/
def EncodesItsRow.Statement (i : Instr) : Prop :=
  encode i &&& (rowPattern i).mask = (rowPattern i).value


theorem EncodesItsRow.stb (rd ro1 : Reg) (o : Operand2) :
    EncodesItsRow.Statement (.stb rd ro1 o) := by
  cases o
  · exact row_free_operand2_reg (m := 0xC1F83FE0#32) (v := 0xC0280000#32)
      (by decide) (by decide) (by decide) (by decide)
  · exact row_free_operand2_imm (m := 0xC1F82000#32) (v := 0xC0282000#32)
      (by decide) (by decide) (by decide) (by decide)

theorem EncodesItsRow.sth (rd ro1 : Reg) (o : Operand2) :
    EncodesItsRow.Statement (.sth rd ro1 o) := by
  cases o
  · exact row_free_operand2_reg (m := 0xC1F83FE0#32) (v := 0xC0300000#32)
      (by decide) (by decide) (by decide) (by decide)
  · exact row_free_operand2_imm (m := 0xC1F82000#32) (v := 0xC0302000#32)
      (by decide) (by decide) (by decide) (by decide)

theorem EncodesItsRow.st (rd ro1 : Reg) (o : Operand2) :
    EncodesItsRow.Statement (.st rd ro1 o) := by
  cases o
  · exact row_free_operand2_reg (m := 0xC1F83FE0#32) (v := 0xC0200000#32)
      (by decide) (by decide) (by decide) (by decide)
  · exact row_free_operand2_imm (m := 0xC1F82000#32) (v := 0xC0202000#32)
      (by decide) (by decide) (by decide) (by decide)

theorem EncodesItsRow.ldsb (rd ro1 : Reg) (o : Operand2) :
    EncodesItsRow.Statement (.ldsb rd ro1 o) := by
  cases o
  · exact row_free_operand2_reg (m := 0xC1F83FE0#32) (v := 0xC0480000#32)
      (by decide) (by decide) (by decide) (by decide)
  · exact row_free_operand2_imm (m := 0xC1F82000#32) (v := 0xC0482000#32)
      (by decide) (by decide) (by decide) (by decide)

theorem EncodesItsRow.ldsh (rd ro1 : Reg) (o : Operand2) :
    EncodesItsRow.Statement (.ldsh rd ro1 o) := by
  cases o
  · exact row_free_operand2_reg (m := 0xC1F83FE0#32) (v := 0xC0500000#32)
      (by decide) (by decide) (by decide) (by decide)
  · exact row_free_operand2_imm (m := 0xC1F82000#32) (v := 0xC0502000#32)
      (by decide) (by decide) (by decide) (by decide)

theorem EncodesItsRow.ldub (rd ro1 : Reg) (o : Operand2) :
    EncodesItsRow.Statement (.ldub rd ro1 o) := by
  cases o
  · exact row_free_operand2_reg (m := 0xC1F83FE0#32) (v := 0xC0080000#32)
      (by decide) (by decide) (by decide) (by decide)
  · exact row_free_operand2_imm (m := 0xC1F82000#32) (v := 0xC0082000#32)
      (by decide) (by decide) (by decide) (by decide)

theorem EncodesItsRow.lduh (rd ro1 : Reg) (o : Operand2) :
    EncodesItsRow.Statement (.lduh rd ro1 o) := by
  cases o
  · exact row_free_operand2_reg (m := 0xC1F83FE0#32) (v := 0xC0100000#32)
      (by decide) (by decide) (by decide) (by decide)
  · exact row_free_operand2_imm (m := 0xC1F82000#32) (v := 0xC0102000#32)
      (by decide) (by decide) (by decide) (by decide)

theorem EncodesItsRow.ld (rd ro1 : Reg) (o : Operand2) :
    EncodesItsRow.Statement (.ld rd ro1 o) := by
  cases o
  · exact row_free_operand2_reg (m := 0xC1F83FE0#32) (v := 0xC0000000#32)
      (by decide) (by decide) (by decide) (by decide)
  · exact row_free_operand2_imm (m := 0xC1F82000#32) (v := 0xC0002000#32)
      (by decide) (by decide) (by decide) (by decide)

theorem EncodesItsRow.sethi (rd : Reg) (const22 : BitVec 22) :
    EncodesItsRow.Statement (.sethi rd const22) :=
  row_sethi (m := 0xC1C00000#32) (v := 0x01000000#32)
    (by decide) (by decide) (by decide)

theorem EncodesItsRow.add (rd ro1 : Reg) (o : Operand2) :
    EncodesItsRow.Statement (.add rd ro1 o) := by
  cases o
  · exact row_free_operand2_reg (m := 0xC1F83FE0#32) (v := 0x80000000#32)
      (by decide) (by decide) (by decide) (by decide)
  · exact row_free_operand2_imm (m := 0xC1F82000#32) (v := 0x80002000#32)
      (by decide) (by decide) (by decide) (by decide)

theorem EncodesItsRow.addcc (rd ro1 : Reg) (o : Operand2) :
    EncodesItsRow.Statement (.addcc rd ro1 o) := by
  cases o
  · exact row_free_operand2_reg (m := 0xC1F83FE0#32) (v := 0x80800000#32)
      (by decide) (by decide) (by decide) (by decide)
  · exact row_free_operand2_imm (m := 0xC1F82000#32) (v := 0x80802000#32)
      (by decide) (by decide) (by decide) (by decide)

theorem EncodesItsRow.and (rd ro1 : Reg) (o : Operand2) :
    EncodesItsRow.Statement (.and rd ro1 o) := by
  cases o
  · exact row_free_operand2_reg (m := 0xC1F83FE0#32) (v := 0x80080000#32)
      (by decide) (by decide) (by decide) (by decide)
  · exact row_free_operand2_imm (m := 0xC1F82000#32) (v := 0x80082000#32)
      (by decide) (by decide) (by decide) (by decide)

theorem EncodesItsRow.andcc (rd ro1 : Reg) (o : Operand2) :
    EncodesItsRow.Statement (.andcc rd ro1 o) := by
  cases o
  · exact row_free_operand2_reg (m := 0xC1F83FE0#32) (v := 0x80880000#32)
      (by decide) (by decide) (by decide) (by decide)
  · exact row_free_operand2_imm (m := 0xC1F82000#32) (v := 0x80882000#32)
      (by decide) (by decide) (by decide) (by decide)

theorem EncodesItsRow.andn (rd ro1 : Reg) (o : Operand2) :
    EncodesItsRow.Statement (.andn rd ro1 o) := by
  cases o
  · exact row_free_operand2_reg (m := 0xC1F83FE0#32) (v := 0x80280000#32)
      (by decide) (by decide) (by decide) (by decide)
  · exact row_free_operand2_imm (m := 0xC1F82000#32) (v := 0x80282000#32)
      (by decide) (by decide) (by decide) (by decide)

theorem EncodesItsRow.andncc (rd ro1 : Reg) (o : Operand2) :
    EncodesItsRow.Statement (.andncc rd ro1 o) := by
  cases o
  · exact row_free_operand2_reg (m := 0xC1F83FE0#32) (v := 0x80A80000#32)
      (by decide) (by decide) (by decide) (by decide)
  · exact row_free_operand2_imm (m := 0xC1F82000#32) (v := 0x80A82000#32)
      (by decide) (by decide) (by decide) (by decide)

theorem EncodesItsRow.or (rd ro1 : Reg) (o : Operand2) :
    EncodesItsRow.Statement (.or rd ro1 o) := by
  cases o
  · exact row_free_operand2_reg (m := 0xC1F83FE0#32) (v := 0x80100000#32)
      (by decide) (by decide) (by decide) (by decide)
  · exact row_free_operand2_imm (m := 0xC1F82000#32) (v := 0x80102000#32)
      (by decide) (by decide) (by decide) (by decide)

theorem EncodesItsRow.orcc (rd ro1 : Reg) (o : Operand2) :
    EncodesItsRow.Statement (.orcc rd ro1 o) := by
  cases o
  · exact row_free_operand2_reg (m := 0xC1F83FE0#32) (v := 0x80900000#32)
      (by decide) (by decide) (by decide) (by decide)
  · exact row_free_operand2_imm (m := 0xC1F82000#32) (v := 0x80902000#32)
      (by decide) (by decide) (by decide) (by decide)

theorem EncodesItsRow.orn (rd ro1 : Reg) (o : Operand2) :
    EncodesItsRow.Statement (.orn rd ro1 o) := by
  cases o
  · exact row_free_operand2_reg (m := 0xC1F83FE0#32) (v := 0x80300000#32)
      (by decide) (by decide) (by decide) (by decide)
  · exact row_free_operand2_imm (m := 0xC1F82000#32) (v := 0x80302000#32)
      (by decide) (by decide) (by decide) (by decide)

theorem EncodesItsRow.orncc (rd ro1 : Reg) (o : Operand2) :
    EncodesItsRow.Statement (.orncc rd ro1 o) := by
  cases o
  · exact row_free_operand2_reg (m := 0xC1F83FE0#32) (v := 0x80B00000#32)
      (by decide) (by decide) (by decide) (by decide)
  · exact row_free_operand2_imm (m := 0xC1F82000#32) (v := 0x80B02000#32)
      (by decide) (by decide) (by decide) (by decide)

theorem EncodesItsRow.udiv (rd ro1 : Reg) (o : Operand2) :
    EncodesItsRow.Statement (.udiv rd ro1 o) := by
  cases o
  · exact row_free_operand2_reg (m := 0xC1F83FE0#32) (v := 0x80700000#32)
      (by decide) (by decide) (by decide) (by decide)
  · exact row_free_operand2_imm (m := 0xC1F82000#32) (v := 0x80702000#32)
      (by decide) (by decide) (by decide) (by decide)

theorem EncodesItsRow.udivcc (rd ro1 : Reg) (o : Operand2) :
    EncodesItsRow.Statement (.udivcc rd ro1 o) := by
  cases o
  · exact row_free_operand2_reg (m := 0xC1F83FE0#32) (v := 0x80F00000#32)
      (by decide) (by decide) (by decide) (by decide)
  · exact row_free_operand2_imm (m := 0xC1F82000#32) (v := 0x80F02000#32)
      (by decide) (by decide) (by decide) (by decide)

theorem EncodesItsRow.umul (rd ro1 : Reg) (o : Operand2) :
    EncodesItsRow.Statement (.umul rd ro1 o) := by
  cases o
  · exact row_free_operand2_reg (m := 0xC1F83FE0#32) (v := 0x80500000#32)
      (by decide) (by decide) (by decide) (by decide)
  · exact row_free_operand2_imm (m := 0xC1F82000#32) (v := 0x80502000#32)
      (by decide) (by decide) (by decide) (by decide)

theorem EncodesItsRow.umulcc (rd ro1 : Reg) (o : Operand2) :
    EncodesItsRow.Statement (.umulcc rd ro1 o) := by
  cases o
  · exact row_free_operand2_reg (m := 0xC1F83FE0#32) (v := 0x80D00000#32)
      (by decide) (by decide) (by decide) (by decide)
  · exact row_free_operand2_imm (m := 0xC1F82000#32) (v := 0x80D02000#32)
      (by decide) (by decide) (by decide) (by decide)

theorem EncodesItsRow.sdiv (rd ro1 : Reg) (o : Operand2) :
    EncodesItsRow.Statement (.sdiv rd ro1 o) := by
  cases o
  · exact row_free_operand2_reg (m := 0xC1F83FE0#32) (v := 0x80780000#32)
      (by decide) (by decide) (by decide) (by decide)
  · exact row_free_operand2_imm (m := 0xC1F82000#32) (v := 0x80782000#32)
      (by decide) (by decide) (by decide) (by decide)

theorem EncodesItsRow.sdivcc (rd ro1 : Reg) (o : Operand2) :
    EncodesItsRow.Statement (.sdivcc rd ro1 o) := by
  cases o
  · exact row_free_operand2_reg (m := 0xC1F83FE0#32) (v := 0x80F80000#32)
      (by decide) (by decide) (by decide) (by decide)
  · exact row_free_operand2_imm (m := 0xC1F82000#32) (v := 0x80F82000#32)
      (by decide) (by decide) (by decide) (by decide)

theorem EncodesItsRow.smul (rd ro1 : Reg) (o : Operand2) :
    EncodesItsRow.Statement (.smul rd ro1 o) := by
  cases o
  · exact row_free_operand2_reg (m := 0xC1F83FE0#32) (v := 0x80580000#32)
      (by decide) (by decide) (by decide) (by decide)
  · exact row_free_operand2_imm (m := 0xC1F82000#32) (v := 0x80582000#32)
      (by decide) (by decide) (by decide) (by decide)

theorem EncodesItsRow.smulcc (rd ro1 : Reg) (o : Operand2) :
    EncodesItsRow.Statement (.smulcc rd ro1 o) := by
  cases o
  · exact row_free_operand2_reg (m := 0xC1F83FE0#32) (v := 0x80D80000#32)
      (by decide) (by decide) (by decide) (by decide)
  · exact row_free_operand2_imm (m := 0xC1F82000#32) (v := 0x80D82000#32)
      (by decide) (by decide) (by decide) (by decide)

theorem EncodesItsRow.sub (rd ro1 : Reg) (o : Operand2) :
    EncodesItsRow.Statement (.sub rd ro1 o) := by
  cases o
  · exact row_free_operand2_reg (m := 0xC1F83FE0#32) (v := 0x80200000#32)
      (by decide) (by decide) (by decide) (by decide)
  · exact row_free_operand2_imm (m := 0xC1F82000#32) (v := 0x80202000#32)
      (by decide) (by decide) (by decide) (by decide)

theorem EncodesItsRow.subcc (rd ro1 : Reg) (o : Operand2) :
    EncodesItsRow.Statement (.subcc rd ro1 o) := by
  cases o
  · exact row_free_operand2_reg (m := 0xC1F83FE0#32) (v := 0x80A00000#32)
      (by decide) (by decide) (by decide) (by decide)
  · exact row_free_operand2_imm (m := 0xC1F82000#32) (v := 0x80A02000#32)
      (by decide) (by decide) (by decide) (by decide)

theorem EncodesItsRow.xor (rd ro1 : Reg) (o : Operand2) :
    EncodesItsRow.Statement (.xor rd ro1 o) := by
  cases o
  · exact row_free_operand2_reg (m := 0xC1F83FE0#32) (v := 0x80180000#32)
      (by decide) (by decide) (by decide) (by decide)
  · exact row_free_operand2_imm (m := 0xC1F82000#32) (v := 0x80182000#32)
      (by decide) (by decide) (by decide) (by decide)

theorem EncodesItsRow.xorcc (rd ro1 : Reg) (o : Operand2) :
    EncodesItsRow.Statement (.xorcc rd ro1 o) := by
  cases o
  · exact row_free_operand2_reg (m := 0xC1F83FE0#32) (v := 0x80980000#32)
      (by decide) (by decide) (by decide) (by decide)
  · exact row_free_operand2_imm (m := 0xC1F82000#32) (v := 0x80982000#32)
      (by decide) (by decide) (by decide) (by decide)

theorem EncodesItsRow.xnor (rd ro1 : Reg) (o : Operand2) :
    EncodesItsRow.Statement (.xnor rd ro1 o) := by
  cases o
  · exact row_free_operand2_reg (m := 0xC1F83FE0#32) (v := 0x80380000#32)
      (by decide) (by decide) (by decide) (by decide)
  · exact row_free_operand2_imm (m := 0xC1F82000#32) (v := 0x80382000#32)
      (by decide) (by decide) (by decide) (by decide)

theorem EncodesItsRow.xnorcc (rd ro1 : Reg) (o : Operand2) :
    EncodesItsRow.Statement (.xnorcc rd ro1 o) := by
  cases o
  · exact row_free_operand2_reg (m := 0xC1F83FE0#32) (v := 0x80B80000#32)
      (by decide) (by decide) (by decide) (by decide)
  · exact row_free_operand2_imm (m := 0xC1F82000#32) (v := 0x80B82000#32)
      (by decide) (by decide) (by decide) (by decide)

theorem EncodesItsRow.sll (rd ro1 : Reg) (o : ShiftCount) :
    EncodesItsRow.Statement (.sll rd ro1 o) := by
  cases o
  · exact row_free_count_reg (m := 0xC1F83FE0#32) (v := 0x81280000#32)
      (by decide) (by decide) (by decide) (by decide)
  · exact row_free_count_imm (m := 0xC1F82000#32) (v := 0x81282000#32)
      (by decide) (by decide) (by decide) (by decide)

theorem EncodesItsRow.sra (rd ro1 : Reg) (o : ShiftCount) :
    EncodesItsRow.Statement (.sra rd ro1 o) := by
  cases o
  · exact row_free_count_reg (m := 0xC1F83FE0#32) (v := 0x81380000#32)
      (by decide) (by decide) (by decide) (by decide)
  · exact row_free_count_imm (m := 0xC1F82000#32) (v := 0x81382000#32)
      (by decide) (by decide) (by decide) (by decide)

theorem EncodesItsRow.srl (rd ro1 : Reg) (o : ShiftCount) :
    EncodesItsRow.Statement (.srl rd ro1 o) := by
  cases o
  · exact row_free_count_reg (m := 0xC1F83FE0#32) (v := 0x81300000#32)
      (by decide) (by decide) (by decide) (by decide)
  · exact row_free_count_imm (m := 0xC1F82000#32) (v := 0x81302000#32)
      (by decide) (by decide) (by decide) (by decide)

theorem EncodesItsRow.bn (a : Bool) (disp22 : BitVec 22) :
    EncodesItsRow.Statement (.bn a disp22) :=
  row_branch (m := 0xDFC00000#32) (v := 0x00800000#32)
    (by decide) (by decide) (by decide)

theorem EncodesItsRow.ba (a : Bool) (disp22 : BitVec 22) :
    EncodesItsRow.Statement (.ba a disp22) :=
  row_branch (m := 0xDFC00000#32) (v := 0x10800000#32)
    (by decide) (by decide) (by decide)

theorem EncodesItsRow.be (a : Bool) (disp22 : BitVec 22) :
    EncodesItsRow.Statement (.be a disp22) :=
  row_branch (m := 0xDFC00000#32) (v := 0x02800000#32)
    (by decide) (by decide) (by decide)

theorem EncodesItsRow.bne (a : Bool) (disp22 : BitVec 22) :
    EncodesItsRow.Statement (.bne a disp22) :=
  row_branch (m := 0xDFC00000#32) (v := 0x12800000#32)
    (by decide) (by decide) (by decide)

theorem EncodesItsRow.ble (a : Bool) (disp22 : BitVec 22) :
    EncodesItsRow.Statement (.ble a disp22) :=
  row_branch (m := 0xDFC00000#32) (v := 0x04800000#32)
    (by decide) (by decide) (by decide)

theorem EncodesItsRow.bg (a : Bool) (disp22 : BitVec 22) :
    EncodesItsRow.Statement (.bg a disp22) :=
  row_branch (m := 0xDFC00000#32) (v := 0x14800000#32)
    (by decide) (by decide) (by decide)

theorem EncodesItsRow.bl (a : Bool) (disp22 : BitVec 22) :
    EncodesItsRow.Statement (.bl a disp22) :=
  row_branch (m := 0xDFC00000#32) (v := 0x06800000#32)
    (by decide) (by decide) (by decide)

theorem EncodesItsRow.bge (a : Bool) (disp22 : BitVec 22) :
    EncodesItsRow.Statement (.bge a disp22) :=
  row_branch (m := 0xDFC00000#32) (v := 0x16800000#32)
    (by decide) (by decide) (by decide)

theorem EncodesItsRow.bleu (a : Bool) (disp22 : BitVec 22) :
    EncodesItsRow.Statement (.bleu a disp22) :=
  row_branch (m := 0xDFC00000#32) (v := 0x08800000#32)
    (by decide) (by decide) (by decide)

theorem EncodesItsRow.bgu (a : Bool) (disp22 : BitVec 22) :
    EncodesItsRow.Statement (.bgu a disp22) :=
  row_branch (m := 0xDFC00000#32) (v := 0x18800000#32)
    (by decide) (by decide) (by decide)

theorem EncodesItsRow.bcs (a : Bool) (disp22 : BitVec 22) :
    EncodesItsRow.Statement (.bcs a disp22) :=
  row_branch (m := 0xDFC00000#32) (v := 0x0A800000#32)
    (by decide) (by decide) (by decide)

theorem EncodesItsRow.bcc (a : Bool) (disp22 : BitVec 22) :
    EncodesItsRow.Statement (.bcc a disp22) :=
  row_branch (m := 0xDFC00000#32) (v := 0x1A800000#32)
    (by decide) (by decide) (by decide)

theorem EncodesItsRow.bneg (a : Bool) (disp22 : BitVec 22) :
    EncodesItsRow.Statement (.bneg a disp22) :=
  row_branch (m := 0xDFC00000#32) (v := 0x0C800000#32)
    (by decide) (by decide) (by decide)

theorem EncodesItsRow.bpos (a : Bool) (disp22 : BitVec 22) :
    EncodesItsRow.Statement (.bpos a disp22) :=
  row_branch (m := 0xDFC00000#32) (v := 0x1C800000#32)
    (by decide) (by decide) (by decide)

theorem EncodesItsRow.bvs (a : Bool) (disp22 : BitVec 22) :
    EncodesItsRow.Statement (.bvs a disp22) :=
  row_branch (m := 0xDFC00000#32) (v := 0x0E800000#32)
    (by decide) (by decide) (by decide)

theorem EncodesItsRow.bvc (a : Bool) (disp22 : BitVec 22) :
    EncodesItsRow.Statement (.bvc a disp22) :=
  row_branch (m := 0xDFC00000#32) (v := 0x1E800000#32)
    (by decide) (by decide) (by decide)

theorem EncodesItsRow.jmp (rd ro1 : Reg) (o : Operand2) :
    EncodesItsRow.Statement (.jmp rd ro1 o) := by
  cases o
  · exact row_free_operand2_reg (m := 0xC1F83FE0#32) (v := 0x81C00000#32)
      (by decide) (by decide) (by decide) (by decide)
  · exact row_free_operand2_imm (m := 0xC1F82000#32) (v := 0x81C02000#32)
      (by decide) (by decide) (by decide) (by decide)

theorem EncodesItsRow.rett (ro1 : Reg) (o : Operand2) :
    EncodesItsRow.Statement (.rett ro1 o) := by
  cases o
  · exact row_fixed_operand2_reg (m := 0xFFF83FE0#32) (v := 0x81C80000#32)
      (by decide) (by decide) (by decide)
  · exact row_fixed_operand2_imm (m := 0xFFF82000#32) (v := 0x81C82000#32)
      (by decide) (by decide) (by decide)

theorem EncodesItsRow.call (disp30 : BitVec 30) :
    EncodesItsRow.Statement (.call disp30) :=
  row_call disp30

theorem EncodesItsRow.restore (rd ro1 : Reg) (o : Operand2) :
    EncodesItsRow.Statement (.restore rd ro1 o) := by
  cases o
  · exact row_free_operand2_reg (m := 0xC1F83FE0#32) (v := 0x81E80000#32)
      (by decide) (by decide) (by decide) (by decide)
  · exact row_free_operand2_imm (m := 0xC1F82000#32) (v := 0x81E82000#32)
      (by decide) (by decide) (by decide) (by decide)

theorem EncodesItsRow.save (rd ro1 : Reg) (o : Operand2) :
    EncodesItsRow.Statement (.save rd ro1 o) := by
  cases o
  · exact row_free_operand2_reg (m := 0xC1F83FE0#32) (v := 0x81E00000#32)
      (by decide) (by decide) (by decide) (by decide)
  · exact row_free_operand2_imm (m := 0xC1F82000#32) (v := 0x81E02000#32)
      (by decide) (by decide) (by decide) (by decide)

theorem EncodesItsRow.tn (ro1 : Reg) (o : Operand2) :
    EncodesItsRow.Statement (.tn ro1 o) := by
  cases o
  · exact row_fixed_operand2_reg (m := 0xFFF83FE0#32) (v := 0x81D00000#32)
      (by decide) (by decide) (by decide)
  · exact row_fixed_operand2_imm (m := 0xFFF82000#32) (v := 0x81D02000#32)
      (by decide) (by decide) (by decide)

theorem EncodesItsRow.ta (ro1 : Reg) (o : Operand2) :
    EncodesItsRow.Statement (.ta ro1 o) := by
  cases o
  · exact row_fixed_operand2_reg (m := 0xFFF83FE0#32) (v := 0x91D00000#32)
      (by decide) (by decide) (by decide)
  · exact row_fixed_operand2_imm (m := 0xFFF82000#32) (v := 0x91D02000#32)
      (by decide) (by decide) (by decide)

theorem EncodesItsRow.te (ro1 : Reg) (o : Operand2) :
    EncodesItsRow.Statement (.te ro1 o) := by
  cases o
  · exact row_fixed_operand2_reg (m := 0xFFF83FE0#32) (v := 0x83D00000#32)
      (by decide) (by decide) (by decide)
  · exact row_fixed_operand2_imm (m := 0xFFF82000#32) (v := 0x83D02000#32)
      (by decide) (by decide) (by decide)

theorem EncodesItsRow.tne (ro1 : Reg) (o : Operand2) :
    EncodesItsRow.Statement (.tne ro1 o) := by
  cases o
  · exact row_fixed_operand2_reg (m := 0xFFF83FE0#32) (v := 0x93D00000#32)
      (by decide) (by decide) (by decide)
  · exact row_fixed_operand2_imm (m := 0xFFF82000#32) (v := 0x93D02000#32)
      (by decide) (by decide) (by decide)

theorem EncodesItsRow.tle (ro1 : Reg) (o : Operand2) :
    EncodesItsRow.Statement (.tle ro1 o) := by
  cases o
  · exact row_fixed_operand2_reg (m := 0xFFF83FE0#32) (v := 0x85D00000#32)
      (by decide) (by decide) (by decide)
  · exact row_fixed_operand2_imm (m := 0xFFF82000#32) (v := 0x85D02000#32)
      (by decide) (by decide) (by decide)

theorem EncodesItsRow.tg (ro1 : Reg) (o : Operand2) :
    EncodesItsRow.Statement (.tg ro1 o) := by
  cases o
  · exact row_fixed_operand2_reg (m := 0xFFF83FE0#32) (v := 0x95D00000#32)
      (by decide) (by decide) (by decide)
  · exact row_fixed_operand2_imm (m := 0xFFF82000#32) (v := 0x95D02000#32)
      (by decide) (by decide) (by decide)

theorem EncodesItsRow.tl (ro1 : Reg) (o : Operand2) :
    EncodesItsRow.Statement (.tl ro1 o) := by
  cases o
  · exact row_fixed_operand2_reg (m := 0xFFF83FE0#32) (v := 0x87D00000#32)
      (by decide) (by decide) (by decide)
  · exact row_fixed_operand2_imm (m := 0xFFF82000#32) (v := 0x87D02000#32)
      (by decide) (by decide) (by decide)

theorem EncodesItsRow.tge (ro1 : Reg) (o : Operand2) :
    EncodesItsRow.Statement (.tge ro1 o) := by
  cases o
  · exact row_fixed_operand2_reg (m := 0xFFF83FE0#32) (v := 0x97D00000#32)
      (by decide) (by decide) (by decide)
  · exact row_fixed_operand2_imm (m := 0xFFF82000#32) (v := 0x97D02000#32)
      (by decide) (by decide) (by decide)

theorem EncodesItsRow.tleu (ro1 : Reg) (o : Operand2) :
    EncodesItsRow.Statement (.tleu ro1 o) := by
  cases o
  · exact row_fixed_operand2_reg (m := 0xFFF83FE0#32) (v := 0x89D00000#32)
      (by decide) (by decide) (by decide)
  · exact row_fixed_operand2_imm (m := 0xFFF82000#32) (v := 0x89D02000#32)
      (by decide) (by decide) (by decide)

theorem EncodesItsRow.tgu (ro1 : Reg) (o : Operand2) :
    EncodesItsRow.Statement (.tgu ro1 o) := by
  cases o
  · exact row_fixed_operand2_reg (m := 0xFFF83FE0#32) (v := 0x99D00000#32)
      (by decide) (by decide) (by decide)
  · exact row_fixed_operand2_imm (m := 0xFFF82000#32) (v := 0x99D02000#32)
      (by decide) (by decide) (by decide)

theorem EncodesItsRow.tcs (ro1 : Reg) (o : Operand2) :
    EncodesItsRow.Statement (.tcs ro1 o) := by
  cases o
  · exact row_fixed_operand2_reg (m := 0xFFF83FE0#32) (v := 0x8BD00000#32)
      (by decide) (by decide) (by decide)
  · exact row_fixed_operand2_imm (m := 0xFFF82000#32) (v := 0x8BD02000#32)
      (by decide) (by decide) (by decide)

theorem EncodesItsRow.tcc (ro1 : Reg) (o : Operand2) :
    EncodesItsRow.Statement (.tcc ro1 o) := by
  cases o
  · exact row_fixed_operand2_reg (m := 0xFFF83FE0#32) (v := 0x9BD00000#32)
      (by decide) (by decide) (by decide)
  · exact row_fixed_operand2_imm (m := 0xFFF82000#32) (v := 0x9BD02000#32)
      (by decide) (by decide) (by decide)

theorem EncodesItsRow.tneg (ro1 : Reg) (o : Operand2) :
    EncodesItsRow.Statement (.tneg ro1 o) := by
  cases o
  · exact row_fixed_operand2_reg (m := 0xFFF83FE0#32) (v := 0x8DD00000#32)
      (by decide) (by decide) (by decide)
  · exact row_fixed_operand2_imm (m := 0xFFF82000#32) (v := 0x8DD02000#32)
      (by decide) (by decide) (by decide)

theorem EncodesItsRow.tpos (ro1 : Reg) (o : Operand2) :
    EncodesItsRow.Statement (.tpos ro1 o) := by
  cases o
  · exact row_fixed_operand2_reg (m := 0xFFF83FE0#32) (v := 0x9DD00000#32)
      (by decide) (by decide) (by decide)
  · exact row_fixed_operand2_imm (m := 0xFFF82000#32) (v := 0x9DD02000#32)
      (by decide) (by decide) (by decide)

theorem EncodesItsRow.tvs (ro1 : Reg) (o : Operand2) :
    EncodesItsRow.Statement (.tvs ro1 o) := by
  cases o
  · exact row_fixed_operand2_reg (m := 0xFFF83FE0#32) (v := 0x8FD00000#32)
      (by decide) (by decide) (by decide)
  · exact row_fixed_operand2_imm (m := 0xFFF82000#32) (v := 0x8FD02000#32)
      (by decide) (by decide) (by decide)

theorem EncodesItsRow.tvc (ro1 : Reg) (o : Operand2) :
    EncodesItsRow.Statement (.tvc ro1 o) := by
  cases o
  · exact row_fixed_operand2_reg (m := 0xFFF83FE0#32) (v := 0x9FD00000#32)
      (by decide) (by decide) (by decide)
  · exact row_fixed_operand2_imm (m := 0xFFF82000#32) (v := 0x9FD02000#32)
      (by decide) (by decide) (by decide)

theorem EncodesItsRow.nop :
    EncodesItsRow.Statement .nop := by
  show encode .nop &&& 0xFFFFFFFF#32 = 0x01000000#32
  decide

theorem EncodesItsRow.rdY (rd : Reg) :
    EncodesItsRow.Statement (.rdY rd) :=
  row_read (m := 0xC1FFFFFF#32) (v := 0x81400000#32)
    (by decide) (by decide)

theorem EncodesItsRow.rdPsr (rd : Reg) :
    EncodesItsRow.Statement (.rdPsr rd) :=
  row_read (m := 0xC1FFFFFF#32) (v := 0x81480000#32)
    (by decide) (by decide)

theorem EncodesItsRow.rdWim (rd : Reg) :
    EncodesItsRow.Statement (.rdWim rd) :=
  row_read (m := 0xC1FFFFFF#32) (v := 0x81500000#32)
    (by decide) (by decide)

theorem EncodesItsRow.rdTbr (rd : Reg) :
    EncodesItsRow.Statement (.rdTbr rd) :=
  row_read (m := 0xC1FFFFFF#32) (v := 0x81580000#32)
    (by decide) (by decide)

theorem EncodesItsRow.rdBase (rd : Reg) :
    EncodesItsRow.Statement (.rdBase rd) :=
  row_read (m := 0xC1FFFFFF#32) (v := 0x81404000#32)
    (by decide) (by decide)

theorem EncodesItsRow.rdLimite (rd : Reg) :
    EncodesItsRow.Statement (.rdLimite rd) :=
  row_read (m := 0xC1FFFFFF#32) (v := 0x81408000#32)
    (by decide) (by decide)

theorem EncodesItsRow.wrY (ro1 : Reg) (o : Operand2) :
    EncodesItsRow.Statement (.wrY ro1 o) := by
  cases o
  · exact row_fixed_operand2_reg (m := 0xFFF83FE0#32) (v := 0x81800000#32)
      (by decide) (by decide) (by decide)
  · exact row_fixed_operand2_imm (m := 0xFFF82000#32) (v := 0x81802000#32)
      (by decide) (by decide) (by decide)

theorem EncodesItsRow.wrPsr (ro1 : Reg) (o : Operand2) :
    EncodesItsRow.Statement (.wrPsr ro1 o) := by
  cases o
  · exact row_fixed_operand2_reg (m := 0xFFF83FE0#32) (v := 0x81880000#32)
      (by decide) (by decide) (by decide)
  · exact row_fixed_operand2_imm (m := 0xFFF82000#32) (v := 0x81882000#32)
      (by decide) (by decide) (by decide)

theorem EncodesItsRow.wrWim (ro1 : Reg) (o : Operand2) :
    EncodesItsRow.Statement (.wrWim ro1 o) := by
  cases o
  · exact row_fixed_operand2_reg (m := 0xFFF83FE0#32) (v := 0x81900000#32)
      (by decide) (by decide) (by decide)
  · exact row_fixed_operand2_imm (m := 0xFFF82000#32) (v := 0x81902000#32)
      (by decide) (by decide) (by decide)

theorem EncodesItsRow.wrTbr (ro1 : Reg) (o : Operand2) :
    EncodesItsRow.Statement (.wrTbr ro1 o) := by
  cases o
  · exact row_fixed_operand2_reg (m := 0xFFF83FE0#32) (v := 0x81980000#32)
      (by decide) (by decide) (by decide)
  · exact row_fixed_operand2_imm (m := 0xFFF82000#32) (v := 0x81982000#32)
      (by decide) (by decide) (by decide)

theorem EncodesItsRow.wrBase (ro1 : Reg) (o : Operand2) :
    EncodesItsRow.Statement (.wrBase ro1 o) := by
  cases o
  · exact row_fixed_operand2_reg (m := 0xFFF83FE0#32) (v := 0x83800000#32)
      (by decide) (by decide) (by decide)
  · exact row_fixed_operand2_imm (m := 0xFFF82000#32) (v := 0x83802000#32)
      (by decide) (by decide) (by decide)

theorem EncodesItsRow.wrLimite (ro1 : Reg) (o : Operand2) :
    EncodesItsRow.Statement (.wrLimite ro1 o) := by
  cases o
  · exact row_fixed_operand2_reg (m := 0xFFF83FE0#32) (v := 0x85800000#32)
      (by decide) (by decide) (by decide)
  · exact row_fixed_operand2_imm (m := 0xFFF82000#32) (v := 0x85802000#32)
      (by decide) (by decide) (by decide)

end Sys2Proof.Laws
end

