-- ==== Sys2Proof/Laws/Run.lean ====
section
/-! SUPPORT. What one more step of a run is, and when a run goes on (R329). -/

namespace Sys2Proof.Machine

theorem core_run_zero (s : State) : Host.Core.run Sys2Proof.core 0 s = .next s := rfl

theorem core_run_of_next {n : Nat} {s t : State} (h : step s = .next t) :
    Host.Core.run Sys2Proof.core (n + 1) s = Host.Core.run Sys2Proof.core n t := by
  have h' : Sys2Proof.core.step s = .next t := h
  exact (Host.Core.run.eq_2 Sys2Proof.core s n).trans (by rw [h'])

theorem core_run_of_fault {n : Nat} {s : State} {e : Fault} (h : step s = .fault e) :
    Host.Core.run Sys2Proof.core (n + 1) s = .fault e := by
  have h' : Sys2Proof.core.step s = .fault e := h
  exact (Host.Core.run.eq_2 Sys2Proof.core s n).trans (by rw [h'])

theorem core_run_of_refused {n : Nat} {s : State} {e : Refusal} (h : step s = .refused e) :
    Host.Core.run Sys2Proof.core (n + 1) s = .refused e := by
  have h' : Sys2Proof.core.step s = .refused e := h
  exact (Host.Core.run.eq_2 Sys2Proof.core s n).trans (by rw [h'])

/-- All the ways a run ends at a state, or goes on from it. -/
theorem ended_cases (h : Halt) (k : Nat) (s : State) :
    (s.errorMode = true ∧ h.ended k s = some (.faulted .errorMode)) ∨
    (s.errorMode = false ∧ h.reached k s = true ∧ h.ended k s = some (.stopped s (h.request s))) ∨
    (s.errorMode = false ∧ h.reached k s = false ∧ h.ended k s = none) := by
  unfold Halt.ended
  cases s.errorMode <;> cases h.reached k s <;> simp

end Sys2Proof.Machine
end

