-- ==== Sys2Proof/Tests/Slice0.lean ====
section
/-! SUPPORT. The tests: words of the spec and what they decode to; single steps whose results are the
spec's own (the examples of the instruction rules and `95_test_vectors.md`); and, for each obligation that
has hypotheses, a state and operands that meet them. -/

set_option maxRecDepth 4000

namespace Sys2Proof.Tests

open Sys2Proof.Machine

/-! ## Well-formed terms -/

/-- R251: the word of `sethi 0, %r0` is `nop`; it is the one term `WellFormed` refuses. -/
theorem test_wellFormed_refuses_sethi_zero :
    WellFormed (.sethi 0#5 0#22) = false ∧ encode (.sethi 0#5 0#22) = encode .nop := by decide

/-- Its neighbours are well formed. -/
theorem test_wellFormed_accepts_other_sethi :
    WellFormed (.sethi 1#5 0#22) = true ∧ WellFormed (.sethi 0#5 1#22) = true := by decide

/-! ## Decoding: the words are the spec's, the instruction is the one it writes beside the word -/

/-- Words of the spec and the instructions it writes beside them: stb, sth, st, ldsb, ldsh, ldub, lduh, ld. -/
theorem test_decode_memory : decode 0xC828A001#32 = .ok (.stb 4#5 2#5 (.imm (1#13))) ∧
    decode 0xCC30A002#32 = .ok (.sth 6#5 2#5 (.imm (2#13))) ∧
    decode 0xC220A000#32 = .ok (.st 1#5 2#5 (.imm (0#13))) ∧
    decode 0xC648A000#32 = .ok (.ldsb 3#5 2#5 (.imm (0#13))) ∧
    decode 0xCA50A002#32 = .ok (.ldsh 5#5 2#5 (.imm (2#13))) ∧
    decode 0xC808A003#32 = .ok (.ldub 4#5 2#5 (.imm (3#13))) ∧
    decode 0xCC10A000#32 = .ok (.lduh 6#5 2#5 (.imm (0#13))) ∧
    decode 0xC6004002#32 = .ok (.ld 3#5 1#5 (.reg 2#5)) ∧
    decode 0xC6006008#32 = .ok (.ld 3#5 1#5 (.imm (8#13))) ∧
    decode 0xC6284002#32 = .ok (.stb 3#5 1#5 (.reg 2#5)) := by decide

/-- Words of the spec and the instructions it writes beside them: sethi, nop. -/
theorem test_decode_sethi_and_nop : decode 0x03226AF3#32 = .ok (.sethi 1#5 2255603#22) ∧
    decode 0x01000000#32 = .ok .nop := by decide

/-- Words of the spec and the instructions it writes beside them: add, addcc, and, andcc, andn, andncc, or, orcc, orn, orncc. -/
theorem test_decode_logic_arith_1 : decode 0x86004002#32 = .ok (.add 3#5 1#5 (.reg 2#5)) ∧
    decode 0x86007FFF#32 = .ok (.add 3#5 1#5 (.imm (-1#13))) ∧
    decode 0x86804002#32 = .ok (.addcc 3#5 1#5 (.reg 2#5)) ∧
    decode 0x86087FF0#32 = .ok (.and 3#5 1#5 (.imm (-16#13))) ∧
    decode 0x86884002#32 = .ok (.andcc 3#5 1#5 (.reg 2#5)) ∧
    decode 0x86284002#32 = .ok (.andn 3#5 1#5 (.reg 2#5)) ∧
    decode 0x862860FF#32 = .ok (.andn 3#5 1#5 (.imm (255#13))) ∧
    decode 0x86A84002#32 = .ok (.andncc 3#5 1#5 (.reg 2#5)) ∧
    decode 0x821061EF#32 = .ok (.or 1#5 1#5 (.imm (495#13))) ∧
    decode 0x80904000#32 = .ok (.orcc 0#5 1#5 (.reg 0#5)) ∧
    decode 0x86304002#32 = .ok (.orn 3#5 1#5 (.reg 2#5)) ∧
    decode 0x86B04002#32 = .ok (.orncc 3#5 1#5 (.reg 2#5)) ∧
    decode 0x86807FFB#32 = .ok (.addcc 3#5 1#5 (.imm (-5#13))) ∧
    decode 0x86084002#32 = .ok (.and 3#5 1#5 (.reg 2#5)) ∧
    decode 0x86887FFF#32 = .ok (.andcc 3#5 1#5 (.imm (-1#13))) ∧
    decode 0x86A87FFF#32 = .ok (.andncc 3#5 1#5 (.imm (-1#13))) ∧
    decode 0x86104002#32 = .ok (.or 3#5 1#5 (.reg 2#5)) ∧
    decode 0x86907000#32 = .ok (.orcc 3#5 1#5 (.imm (-4096#13))) ∧
    decode 0x86B06000#32 = .ok (.orncc 3#5 1#5 (.imm (0#13))) := by decide

/-- Words of the spec and the instructions it writes beside them: udiv, udivcc, umul, umulcc, sdiv, sdivcc, smul, smulcc. -/
theorem test_decode_mul_div : decode 0x86706007#32 = .ok (.udiv 3#5 1#5 (.imm (7#13))) ∧
    decode 0x86704002#32 = .ok (.udiv 3#5 1#5 (.reg 2#5)) ∧
    decode 0x86F04002#32 = .ok (.udivcc 3#5 1#5 (.reg 2#5)) ∧
    decode 0x86504002#32 = .ok (.umul 3#5 1#5 (.reg 2#5)) ∧
    decode 0x86507FFF#32 = .ok (.umul 3#5 1#5 (.imm (-1#13))) ∧
    decode 0x86D04002#32 = .ok (.umulcc 3#5 1#5 (.reg 2#5)) ∧
    decode 0x86786007#32 = .ok (.sdiv 3#5 1#5 (.imm (7#13))) ∧
    decode 0x86F86007#32 = .ok (.sdivcc 3#5 1#5 (.imm (7#13))) ∧
    decode 0x86587FFD#32 = .ok (.smul 3#5 1#5 (.imm (-3#13))) ∧
    decode 0x86584002#32 = .ok (.smul 3#5 1#5 (.reg 2#5)) ∧
    decode 0x86D84002#32 = .ok (.smulcc 3#5 1#5 (.reg 2#5)) ∧
    decode 0x86D87FFF#32 = .ok (.smulcc 3#5 1#5 (.imm (-1#13))) ∧
    decode 0x86D07FFF#32 = .ok (.umulcc 3#5 1#5 (.imm (-1#13))) ∧
    decode 0x86784002#32 = .ok (.sdiv 3#5 1#5 (.reg 2#5)) := by decide

/-- Words of the spec and the instructions it writes beside them: sub, subcc, xor, xorcc, xnor, xnorcc. -/
theorem test_decode_logic_arith_2 : decode 0x86204002#32 = .ok (.sub 3#5 1#5 (.reg 2#5)) ∧
    decode 0x86206001#32 = .ok (.sub 3#5 1#5 (.imm (1#13))) ∧
    decode 0x86A04002#32 = .ok (.subcc 3#5 1#5 (.reg 2#5)) ∧
    decode 0x86184002#32 = .ok (.xor 3#5 1#5 (.reg 2#5)) ∧
    decode 0x86187FFF#32 = .ok (.xor 3#5 1#5 (.imm (-1#13))) ∧
    decode 0x86984001#32 = .ok (.xorcc 3#5 1#5 (.reg 1#5)) ∧
    decode 0x86384002#32 = .ok (.xnor 3#5 1#5 (.reg 2#5)) ∧
    decode 0x86B84001#32 = .ok (.xnorcc 3#5 1#5 (.reg 1#5)) ∧
    decode 0x86A07FFF#32 = .ok (.subcc 3#5 1#5 (.imm (-1#13))) ∧
    decode 0x86987FFF#32 = .ok (.xorcc 3#5 1#5 (.imm (-1#13))) ∧
    decode 0x86B86000#32 = .ok (.xnorcc 3#5 1#5 (.imm (0#13))) := by decide

/-- Words of the spec and the instructions it writes beside them: sll, sra, srl. -/
theorem test_decode_shift : decode 0x87286004#32 = .ok (.sll 3#5 1#5 (.imm 4#5)) ∧
    decode 0x87284002#32 = .ok (.sll 3#5 1#5 (.reg 2#5)) ∧
    decode 0x87386004#32 = .ok (.sra 3#5 1#5 (.imm 4#5)) ∧
    decode 0x87306004#32 = .ok (.srl 3#5 1#5 (.imm 4#5)) ∧
    decode 0x87304002#32 = .ok (.srl 3#5 1#5 (.reg 2#5)) ∧
    decode 0x87384002#32 = .ok (.sra 3#5 1#5 (.reg 2#5)) := by decide

/-- Words of the spec and the instructions it writes beside them: bn, ba, be, bne, ble, bg, bl, bge. -/
theorem test_decode_branch_1 : decode 0x02800006#32 = .ok (.be false 6#22) ∧
    decode 0x22800006#32 = .ok (.be true 6#22) ∧
    decode 0x10800000#32 = .ok (.ba false 0#22) ∧
    decode 0x00800006#32 = .ok (.bn false 6#22) ∧
    decode 0x20BFFFFD#32 = .ok (.bn true (-3#22)) ∧
    decode 0x30BFFFFD#32 = .ok (.ba true (-3#22)) ∧
    decode 0x12800006#32 = .ok (.bne false 6#22) ∧
    decode 0x32BFFFFD#32 = .ok (.bne true (-3#22)) ∧
    decode 0x04800006#32 = .ok (.ble false 6#22) ∧
    decode 0x24BFFFFD#32 = .ok (.ble true (-3#22)) ∧
    decode 0x14800006#32 = .ok (.bg false 6#22) ∧
    decode 0x34BFFFFD#32 = .ok (.bg true (-3#22)) ∧
    decode 0x06800006#32 = .ok (.bl false 6#22) ∧
    decode 0x26BFFFFD#32 = .ok (.bl true (-3#22)) ∧
    decode 0x16800006#32 = .ok (.bge false 6#22) ∧
    decode 0x36BFFFFD#32 = .ok (.bge true (-3#22)) := by decide

/-- Words of the spec and the instructions it writes beside them: bleu, bgu, bcs, bcc, bneg, bpos, bvs, bvc. -/
theorem test_decode_branch_2 : decode 0x08800006#32 = .ok (.bleu false 6#22) ∧
    decode 0x28BFFFFD#32 = .ok (.bleu true (-3#22)) ∧
    decode 0x18800006#32 = .ok (.bgu false 6#22) ∧
    decode 0x38BFFFFD#32 = .ok (.bgu true (-3#22)) ∧
    decode 0x0A800006#32 = .ok (.bcs false 6#22) ∧
    decode 0x2ABFFFFD#32 = .ok (.bcs true (-3#22)) ∧
    decode 0x1A800006#32 = .ok (.bcc false 6#22) ∧
    decode 0x3ABFFFFD#32 = .ok (.bcc true (-3#22)) ∧
    decode 0x0C800006#32 = .ok (.bneg false 6#22) ∧
    decode 0x2CBFFFFD#32 = .ok (.bneg true (-3#22)) ∧
    decode 0x1C800006#32 = .ok (.bpos false 6#22) ∧
    decode 0x3CBFFFFD#32 = .ok (.bpos true (-3#22)) ∧
    decode 0x0E800006#32 = .ok (.bvs false 6#22) ∧
    decode 0x2EBFFFFD#32 = .ok (.bvs true (-3#22)) ∧
    decode 0x1E800006#32 = .ok (.bvc false 6#22) ∧
    decode 0x3EBFFFFD#32 = .ok (.bvc true (-3#22)) := by decide

/-- Words of the spec and the instructions it writes beside them: jmp, rett, call. -/
theorem test_decode_jump : decode 0x87C06000#32 = .ok (.jmp 3#5 1#5 (.imm (0#13))) ∧
    decode 0x9FC04002#32 = .ok (.jmp 15#5 1#5 (.reg 2#5)) ∧
    decode 0x40000006#32 = .ok (.call 6#30) ∧
    decode 0x81C86000#32 = .ok (.rett 1#5 (.imm (0#13))) := by decide

/-- Words of the spec and the instructions it writes beside them: restore, save. -/
theorem test_decode_window : decode 0x81E80000#32 = .ok (.restore 0#5 0#5 (.reg 0#5)) ∧
    decode 0x91EE2005#32 = .ok (.restore 8#5 24#5 (.imm (5#13))) ∧
    decode 0x9DE3BFA0#32 = .ok (.save 14#5 14#5 (.imm (-96#13))) ∧
    decode 0x81E00000#32 = .ok (.save 0#5 0#5 (.reg 0#5)) := by decide

/-- Words of the spec and the instructions it writes beside them: tn, ta, te, tne, tle, tg, tl, tge. -/
theorem test_decode_trap_1 : decode 0x81D02003#32 = .ok (.tn 0#5 (.imm (3#13))) ∧
    decode 0x81D04002#32 = .ok (.tn 1#5 (.reg 2#5)) ∧
    decode 0x91D02003#32 = .ok (.ta 0#5 (.imm (3#13))) ∧
    decode 0x91D04002#32 = .ok (.ta 1#5 (.reg 2#5)) ∧
    decode 0x83D02003#32 = .ok (.te 0#5 (.imm (3#13))) ∧
    decode 0x83D04002#32 = .ok (.te 1#5 (.reg 2#5)) ∧
    decode 0x93D02003#32 = .ok (.tne 0#5 (.imm (3#13))) ∧
    decode 0x93D04002#32 = .ok (.tne 1#5 (.reg 2#5)) ∧
    decode 0x85D02003#32 = .ok (.tle 0#5 (.imm (3#13))) ∧
    decode 0x85D04002#32 = .ok (.tle 1#5 (.reg 2#5)) ∧
    decode 0x95D02003#32 = .ok (.tg 0#5 (.imm (3#13))) ∧
    decode 0x95D04002#32 = .ok (.tg 1#5 (.reg 2#5)) ∧
    decode 0x87D02003#32 = .ok (.tl 0#5 (.imm (3#13))) ∧
    decode 0x87D04002#32 = .ok (.tl 1#5 (.reg 2#5)) ∧
    decode 0x97D02003#32 = .ok (.tge 0#5 (.imm (3#13))) ∧
    decode 0x97D04002#32 = .ok (.tge 1#5 (.reg 2#5)) := by decide

/-- Words of the spec and the instructions it writes beside them: tleu, tgu, tcs, tcc, tneg, tpos, tvs, tvc. -/
theorem test_decode_trap_2 : decode 0x89D02003#32 = .ok (.tleu 0#5 (.imm (3#13))) ∧
    decode 0x89D04002#32 = .ok (.tleu 1#5 (.reg 2#5)) ∧
    decode 0x99D02003#32 = .ok (.tgu 0#5 (.imm (3#13))) ∧
    decode 0x99D04002#32 = .ok (.tgu 1#5 (.reg 2#5)) ∧
    decode 0x8BD02003#32 = .ok (.tcs 0#5 (.imm (3#13))) ∧
    decode 0x8BD04002#32 = .ok (.tcs 1#5 (.reg 2#5)) ∧
    decode 0x9BD02003#32 = .ok (.tcc 0#5 (.imm (3#13))) ∧
    decode 0x9BD04002#32 = .ok (.tcc 1#5 (.reg 2#5)) ∧
    decode 0x8DD02003#32 = .ok (.tneg 0#5 (.imm (3#13))) ∧
    decode 0x8DD04002#32 = .ok (.tneg 1#5 (.reg 2#5)) ∧
    decode 0x9DD02003#32 = .ok (.tpos 0#5 (.imm (3#13))) ∧
    decode 0x9DD04002#32 = .ok (.tpos 1#5 (.reg 2#5)) ∧
    decode 0x8FD02003#32 = .ok (.tvs 0#5 (.imm (3#13))) ∧
    decode 0x8FD04002#32 = .ok (.tvs 1#5 (.reg 2#5)) ∧
    decode 0x9FD02003#32 = .ok (.tvc 0#5 (.imm (3#13))) ∧
    decode 0x9FD04002#32 = .ok (.tvc 1#5 (.reg 2#5)) := by decide

/-- Words of the spec and the instructions it writes beside them: rd, wr. -/
theorem test_decode_state_registers : decode 0x87400000#32 = .ok (.rdY 3#5) ∧
    decode 0x87480000#32 = .ok (.rdPsr 3#5) ∧
    decode 0x87500000#32 = .ok (.rdWim 3#5) ∧
    decode 0x87580000#32 = .ok (.rdTbr 3#5) ∧
    decode 0x87404000#32 = .ok (.rdBase 3#5) ∧
    decode 0x87408000#32 = .ok (.rdLimite 3#5) ∧
    decode 0x81804002#32 = .ok (.wrY 1#5 (.reg 2#5)) ∧
    decode 0x81807FFF#32 = .ok (.wrY 1#5 (.imm (-1#13))) ∧
    decode 0x81886000#32 = .ok (.wrPsr 1#5 (.imm (0#13))) ∧
    decode 0x81904002#32 = .ok (.wrWim 1#5 (.reg 2#5)) ∧
    decode 0x81906055#32 = .ok (.wrWim 1#5 (.imm (85#13))) ∧
    decode 0x81986000#32 = .ok (.wrTbr 1#5 (.imm (0#13))) ∧
    decode 0x83804002#32 = .ok (.wrBase 1#5 (.reg 2#5)) ∧
    decode 0x83806055#32 = .ok (.wrBase 1#5 (.imm (85#13))) ∧
    decode 0x85804002#32 = .ok (.wrLimite 1#5 (.reg 2#5)) ∧
    decode 0x85806055#32 = .ok (.wrLimite 1#5 (.imm (85#13))) ∧
    decode 0x81884002#32 = .ok (.wrPsr 1#5 (.reg 2#5)) ∧
    decode 0x81984002#32 = .ok (.wrTbr 1#5 (.reg 2#5)) := by decide

/-- The words `95_test_vectors.md` 2.11 lists as no instruction are rejected. -/
theorem test_decode_rejects :
    ([0x00000000#32, 0x00400000#32, 0x00C00000#32, 0x01400000#32, 0x01800000#32, 0x01C00000#32, 0x80400000#32,
      0x80480000#32, 0x80600000#32, 0x80680000#32, 0x80C00000#32, 0x81000000#32, 0x81200000#32, 0x81600000#32,
      0x81A00000#32, 0x81D80000#32, 0x81F00000#32, 0x81F80000#32, 0xC0180000#32, 0xC0380000#32, 0xC0400000#32,
      0xC0580000#32, 0xC0680000#32, 0xC1F80000#32, 0xFFFFFFFF#32, 0x86004022#32, 0x87284022#32, 0x87E04102#32,
      0x87400001#32, 0x8740C000#32, 0x87484000#32, 0x87802000#32, 0x83902000#32, 0x8BC86000#32, 0xB1D02003#32].all
      fun w => match decode w with | .ok _ => false | .error _ => true) = true := by decide

/-- R80 to R82, R260: each rejection has its name. -/
theorem test_decode_rejects_by_name :
    decode 0x00000000#32 = .error .unassignedOp2 ∧ decode 0x80400000#32 = .error .unassignedOp3 ∧
    decode 0x86004022#32 = .error .ceroNotZero ∧ decode 0xB1D02003#32 = .error .reservedNotZero ∧
    decode 0x8740C000#32 = .error .unlistedSelector ∧
    decodeBytes .big [0x01#8, 0#8, 0#8] = .error .tooShort := by decide

/-- R83: bits 12:5 of an immediate shift are ignored; the host's entry point lays the bytes out as the
machine does. -/
theorem test_decode_ignored_bits :
    decode 0x87287FE1#32 = .ok (.sll 3#5 1#5 (.imm 1#5)) ∧
    decodeTableWord 32 0x87287FE1 = some (.sll 3#5 1#5 (.imm 1#5)) ∧ decodeTableWord 32 0 = none := by decide

/-! ## One step: the word in memory at PC, the results the spec's -/

/-- N, Z, V, C in that order, from the most significant bit. -/
def nzvc (f : BitVec 4) : Icc :=
  { n := f.getLsbD 3, z := f.getLsbD 2, v := f.getLsbD 1, c := f.getLsbD 0 }

/-- The state of `95_test_vectors.md`: PC 0x1000, supervisor mode, ET = 0, with the registers of `l`. -/
def start (l : List (Reg × Word)) : State :=
  l.foldl (fun s p => s.setReg p.1 p.2) (State.resetWith 0x1000#32 [])

/-- Bytes at rising addresses from 0x3FFC: the memory of the load and store vectors. -/
def withBytes (s : State) (a : Word) (bs : List Byte) : State := { s with mem := memWriteBytes s.mem a bs }

/-- The step that runs the word `w` from `s` ends in a next state that satisfies `ok`. -/
def after (s : State) (w : Nat) (ok : State → Bool) : Bool :=
  match step (s.withFetchWord 32 w) with
  | .next t => ok t
  | .fault _ => false
  | .refused _ => false

/-- `w`, run from `s` with Y = `y` and the flags `f`, leaves `v` in `r`, `y'` in Y and the flags `f'`, and
advances from 0x1000. -/
def gives (w : Nat) (s : State) (y : Word) (f : BitVec 4) (r : Reg) (v y' : Word) (f' : BitVec 4) : Bool :=
  after ((s.setY y).setIcc (nzvc f)) w fun t =>
    t.reg r == v && t.y == y' && t.psr.icc == nzvc f' && t.pc == 0x1004#32 && t.npc == 0x1008#32

/-- `w`, run from `s` with ET = 0, raises an exception: error mode, `%r3` and PC as before. -/
def stops (w : Nat) (s : State) : Bool :=
  after s w fun t => t.errorMode && t.reg 3#5 == s.reg 3#5 && t.pc == s.pc && t.npc == s.npc

/-! ### `sethi` and `nop` (vectors 2.2, 1.1) -/

theorem test_sethi :
    gives 0x053FFFFF (start [(2#5, 0x000003FF#32)]) 0x00000000#32 0b0000#4 2#5 0xFFFFFC00#32 0x00000000#32 0b0000#4 = true ∧
    gives 0x03226AF3 (start []) 0x00000000#32 0b1111#4 1#5 0x89ABCC00#32 0x00000000#32 0b1111#4 = true := by decide

theorem test_nop :
    gives 0x01000000 (start [(1#5, 0x00000005#32)]) 0x00000007#32 0b1010#4 1#5 0x00000005#32 0x00000007#32 0b1010#4 = true := by decide

/-! ### Logic and arithmetic (vectors 2.3) -/

theorem test_add :
    gives 0x86004002 (start [(1#5, 0x7FFFFFFF#32), (2#5, 0x00000001#32)]) 0x00000000#32 0b0000#4 3#5 0x80000000#32 0x00000000#32 0b0000#4 = true ∧
    gives 0x86007FFF (start [(1#5, 0x00000005#32)]) 0x00000000#32 0b1111#4 3#5 0x00000004#32 0x00000000#32 0b1111#4 = true := by decide

theorem test_addcc :
    gives 0x86804002 (start [(1#5, 0x7FFFFFFF#32), (2#5, 0x00000001#32)]) 0x00000000#32 0b0000#4 3#5 0x80000000#32 0x00000000#32 0b1010#4 = true ∧
    gives 0x86804002 (start [(1#5, 0x80000000#32), (2#5, 0x80000000#32)]) 0x00000000#32 0b0000#4 3#5 0x00000000#32 0x00000000#32 0b0111#4 = true := by decide

theorem test_addcc_immediate :
    gives 0x86807FFB (start [(1#5, 0x00000005#32)]) 0x00000000#32 0b0000#4 3#5 0x00000000#32 0x00000000#32 0b0101#4 = true ∧
    gives 0x86807000 (start [(1#5, 0x00000000#32)]) 0x00000000#32 0b0000#4 3#5 0xFFFFF000#32 0x00000000#32 0b1000#4 = true := by decide

theorem test_sub :
    gives 0x86204002 (start [(1#5, 0x00000005#32), (2#5, 0x00000007#32)]) 0x00000000#32 0b0000#4 3#5 0xFFFFFFFE#32 0x00000000#32 0b0000#4 = true := by decide

theorem test_subcc :
    gives 0x86A04002 (start [(1#5, 0x00000005#32), (2#5, 0x00000007#32)]) 0x00000000#32 0b0000#4 3#5 0xFFFFFFFE#32 0x00000000#32 0b1001#4 = true ∧
    gives 0x86A04002 (start [(1#5, 0x7FFFFFFF#32), (2#5, 0xFFFFFFFF#32)]) 0x00000000#32 0b0000#4 3#5 0x80000000#32 0x00000000#32 0b1011#4 = true := by decide

theorem test_subcc_immediate :
    gives 0x86A07FFF (start [(1#5, 0x00000000#32)]) 0x00000000#32 0b0000#4 3#5 0x00000001#32 0x00000000#32 0b0001#4 = true ∧
    gives 0x86A04002 (start [(1#5, 0x00000005#32), (2#5, 0x00000005#32)]) 0x00000000#32 0b0000#4 3#5 0x00000000#32 0x00000000#32 0b0100#4 = true := by decide

theorem test_and :
    gives 0x86084002 (start [(1#5, 0xF0F0F0F0#32), (2#5, 0xFF00FF00#32)]) 0x00000000#32 0b0101#4 3#5 0xF000F000#32 0x00000000#32 0b0101#4 = true := by decide

theorem test_andcc :
    gives 0x86884002 (start [(1#5, 0xF0F0F0F0#32), (2#5, 0x0F0F0F0F#32)]) 0x00000000#32 0b1011#4 3#5 0x00000000#32 0x00000000#32 0b0100#4 = true ∧
    gives 0x86887FFF (start [(1#5, 0x80000001#32)]) 0x00000000#32 0b0000#4 3#5 0x80000001#32 0x00000000#32 0b1000#4 = true := by decide

theorem test_andn :
    gives 0x86284002 (start [(1#5, 0xF0F0F0F0#32), (2#5, 0xFF00FF00#32)]) 0x00000000#32 0b0000#4 3#5 0x00F000F0#32 0x00000000#32 0b0000#4 = true := by decide

theorem test_andncc :
    gives 0x86A87FFF (start [(1#5, 0xFFFFFFFF#32)]) 0x00000000#32 0b1011#4 3#5 0x00000000#32 0x00000000#32 0b0100#4 = true := by decide

theorem test_or :
    gives 0x86104002 (start [(1#5, 0xF0F0F0F0#32), (2#5, 0x0F0F0F0F#32)]) 0x00000000#32 0b0000#4 3#5 0xFFFFFFFF#32 0x00000000#32 0b0000#4 = true ∧
    gives 0x821061EF (start [(1#5, 0x89ABCC00#32)]) 0x00000000#32 0b0000#4 1#5 0x89ABCDEF#32 0x00000000#32 0b0000#4 = true := by decide

theorem test_orcc :
    gives 0x86907000 (start [(1#5, 0x00000000#32)]) 0x00000000#32 0b0000#4 3#5 0xFFFFF000#32 0x00000000#32 0b1000#4 = true ∧
    gives 0x80904000 (start [(1#5, 0x80000001#32)]) 0x00000000#32 0b0000#4 0#5 0x00000000#32 0x00000000#32 0b1000#4 = true := by decide

theorem test_orn :
    gives 0x86304002 (start [(1#5, 0x0000000F#32), (2#5, 0xFFFFFF00#32)]) 0x00000000#32 0b0000#4 3#5 0x000000FF#32 0x00000000#32 0b0000#4 = true := by decide

theorem test_orncc :
    gives 0x86B06000 (start [(1#5, 0x00000000#32)]) 0x00000000#32 0b0000#4 3#5 0xFFFFFFFF#32 0x00000000#32 0b1000#4 = true := by decide

theorem test_xor :
    gives 0x86184002 (start [(1#5, 0xAAAAAAAA#32), (2#5, 0xFFFFFFFF#32)]) 0x00000000#32 0b0000#4 3#5 0x55555555#32 0x00000000#32 0b0000#4 = true := by decide

theorem test_xorcc :
    gives 0x86984002 (start [(1#5, 0x12345678#32), (2#5, 0x12345678#32)]) 0x00000000#32 0b1011#4 3#5 0x00000000#32 0x00000000#32 0b0100#4 = true := by decide

theorem test_xnor :
    gives 0x86384002 (start [(1#5, 0xFF00FF00#32), (2#5, 0x0FF00FF0#32)]) 0x00000000#32 0b0000#4 3#5 0x0F0F0F0F#32 0x00000000#32 0b0000#4 = true := by decide

theorem test_xnorcc :
    gives 0x86B84002 (start [(1#5, 0xAAAAAAAA#32), (2#5, 0x55555555#32)]) 0x00000000#32 0b0000#4 3#5 0x00000000#32 0x00000000#32 0b0100#4 = true := by decide

theorem test_umul :
    gives 0x86504002 (start [(1#5, 0xFFFFFFFF#32), (2#5, 0xFFFFFFFF#32)]) 0x00000000#32 0b0000#4 3#5 0x00000001#32 0xFFFFFFFE#32 0b0000#4 = true ∧
    gives 0x86507FFF (start [(1#5, 0x00000002#32)]) 0x00000009#32 0b0000#4 3#5 0x00003FFE#32 0x00000000#32 0b0000#4 = true := by decide

theorem test_umulcc :
    gives 0x86D04002 (start [(1#5, 0x80000000#32), (2#5, 0x00000002#32)]) 0x00000000#32 0b1011#4 3#5 0x00000000#32 0x00000001#32 0b0100#4 = true ∧
    gives 0x86D07FFF (start [(1#5, 0xFFFFFFFF#32)]) 0x00000000#32 0b0000#4 3#5 0xFFFFE001#32 0x00001FFE#32 0b1000#4 = true := by decide

theorem test_smul :
    gives 0x86584002 (start [(1#5, 0xFFFFFFFF#32), (2#5, 0xFFFFFFFF#32)]) 0x00000000#32 0b0000#4 3#5 0x00000001#32 0x00000000#32 0b0000#4 = true ∧
    gives 0x8658600E (start [(1#5, 0xFFFFFFFD#32)]) 0x00000000#32 0b0000#4 3#5 0xFFFFFFD6#32 0xFFFFFFFF#32 0b0000#4 = true := by decide

theorem test_smulcc :
    gives 0x86D84002 (start [(1#5, 0x80000000#32), (2#5, 0x80000000#32)]) 0x00000000#32 0b1011#4 3#5 0x00000000#32 0x40000000#32 0b0100#4 = true ∧
    gives 0x86D87FFF (start [(1#5, 0x7FFFFFFF#32)]) 0x00000000#32 0b0000#4 3#5 0x80000001#32 0xFFFFFFFF#32 0b1000#4 = true := by decide

theorem test_udiv :
    gives 0x86704002 (start [(1#5, 0x00000001#32), (2#5, 0x00000010#32)]) 0x00000005#32 0b0000#4 3#5 0x50000000#32 0x00000001#32 0b0000#4 = true ∧
    gives 0x86707FFF (start [(1#5, 0xFFFFFFFF#32)]) 0x00000000#32 0b0000#4 3#5 0x00080040#32 0x0000003F#32 0b0000#4 = true := by decide

theorem test_udivcc :
    gives 0x86F04002 (start [(1#5, 0x00000006#32), (2#5, 0x00000007#32)]) 0x00000000#32 0b1011#4 3#5 0x00000000#32 0x00000006#32 0b0100#4 = true ∧
    gives 0x86F04002 (start [(1#5, 0xFFFFFFFE#32), (2#5, 0x00000001#32)]) 0x00000000#32 0b0000#4 3#5 0xFFFFFFFE#32 0x00000000#32 0b1000#4 = true := by decide

theorem test_sdiv :
    gives 0x86784002 (start [(1#5, 0xFFFFFFF9#32), (2#5, 0x00000002#32)]) 0xFFFFFFFF#32 0b0000#4 3#5 0xFFFFFFFD#32 0xFFFFFFFF#32 0b0000#4 = true ∧
    gives 0x86784002 (start [(1#5, 0x80000000#32), (2#5, 0xFFFFFFFF#32)]) 0x00000000#32 0b0000#4 3#5 0x80000000#32 0x00000000#32 0b0000#4 = true := by decide

theorem test_sdivcc :
    gives 0x86F86007 (start [(1#5, 0xFFFFFFD6#32)]) 0xFFFFFFFF#32 0b0111#4 3#5 0xFFFFFFFA#32 0x00000000#32 0b1000#4 = true ∧
    gives 0x86F86005 (start [(1#5, 0x00000000#32)]) 0x00000000#32 0b0000#4 3#5 0x00000000#32 0x00000000#32 0b0100#4 = true := by decide

/-- A divisor of zero, in either form, raises (R122). -/
theorem test_division_by_zero :
    stops 0x86704002 (start [(1#5, 5#32), (3#5, 9#32)]) = true ∧
    stops 0x86786000 (start [(1#5, 1#32), (3#5, 9#32)]) = true := by decide

/-- A quotient that does not fit runs: a next state that advances, whatever `DIV_OVERFLOW` is (R123). -/
theorem test_quotient_overflow_runs :
    (after ((start [(2#5, 1#32)]).setY 1#32) 0x86704002 fun t => t.pc == 0x1004#32 && !t.errorMode) = true := by
  decide

/-! ### Shifts, from flags 1 1 1 1 (vectors 2.4) -/

theorem test_sll :
    gives 0x87286001 (start [(1#5, 0x80000001#32)]) 0x00000000#32 0b1111#4 3#5 0x00000002#32 0x00000000#32 0b1111#4 = true ∧
    gives 0x87284002 (start [(1#5, 0x00000001#32), (2#5, 0x00000020#32)]) 0x00000000#32 0b1111#4 3#5 0x00000001#32 0x00000000#32 0b1111#4 = true := by decide

theorem test_srl :
    gives 0x8730601F (start [(1#5, 0x80000000#32)]) 0x00000000#32 0b1111#4 3#5 0x00000001#32 0x00000000#32 0b1111#4 = true ∧
    gives 0x87304002 (start [(1#5, 0xFFFFFFFF#32), (2#5, 0x00000024#32)]) 0x00000000#32 0b1111#4 3#5 0x0FFFFFFF#32 0x00000000#32 0b1111#4 = true := by decide

theorem test_sra :
    gives 0x87386001 (start [(1#5, 0x80000000#32)]) 0x00000000#32 0b1111#4 3#5 0xC0000000#32 0x00000000#32 0b1111#4 = true ∧
    gives 0x87386004 (start [(1#5, 0x7FFFFFFF#32)]) 0x00000000#32 0b1111#4 3#5 0x07FFFFFF#32 0x00000000#32 0b1111#4 = true := by decide

/-! ### Loads and stores (vectors 2.1) -/

/-- The load vectors: `x[1]` = 0x4000 and the bytes 89 AB CD EF 01 02 03 04 there. -/
def loadStart : State :=
  withBytes (start [(1#5, 0x4000#32)]) 0x4000#32
    [0x89#8, 0xAB#8, 0xCD#8, 0xEF#8, 0x01#8, 0x02#8, 0x03#8, 0x04#8]

/-- The store vectors: `x[1]` = 0x4000, `x[3]` = 0x11223344, four bytes BB, then four bytes AA from 0x4000. -/
def storeStart : State :=
  withBytes (start [(1#5, 0x4000#32), (3#5, 0x11223344#32)]) 0x3FFC#32
    [0xBB#8, 0xBB#8, 0xBB#8, 0xBB#8, 0xAA#8, 0xAA#8, 0xAA#8, 0xAA#8]

/-- The load `w` leaves `v` in `%r3`. -/
def loads (w : Nat) (v : Word) : Bool := gives w loadStart 0#32 0#4 3#5 v 0#32 0#4

/-- The store `w` leaves the words `v0` at 0x3FFC and `v1` at 0x4000. -/
def stores (w : Nat) (v0 v1 : Word) : Bool :=
  after storeStart w fun t =>
    memRead32 .big t.mem 0x3FFC#32 == v0 && memRead32 .big t.mem 0x4000#32 == v1 && t.pc == 0x1004#32

theorem test_ld : loads 0xC6006000 0x89ABCDEF#32 = true ∧ loads 0xC6006004 0x01020304#32 = true := by decide

theorem test_ldub : loads 0xC6086000 0x89#32 = true ∧ loads 0xC6086003 0xEF#32 = true := by decide

theorem test_ldsb : loads 0xC6486000 0xFFFFFF89#32 = true ∧ loads 0xC6486005 0x02#32 = true := by decide

theorem test_lduh : loads 0xC6106000 0x89AB#32 = true ∧ loads 0xC6106002 0xCDEF#32 = true := by decide

theorem test_ldsh : loads 0xC6506000 0xFFFF89AB#32 = true ∧ loads 0xC6506006 0x0304#32 = true := by decide

theorem test_st :
    stores 0xC6206000 0xBBBBBBBB#32 0x11223344#32 = true ∧
    stores 0xC6207FFC 0x11223344#32 0xAAAAAAAA#32 = true := by decide

theorem test_stb :
    stores 0xC6286001 0xBBBBBBBB#32 0xAA44AAAA#32 = true ∧
    stores 0xC0206000 0xBBBBBBBB#32 0x00000000#32 = true := by decide

theorem test_sth :
    stores 0xC6306000 0xBBBBBBBB#32 0x3344AAAA#32 = true ∧
    stores 0xC6306002 0xBBBBBBBB#32 0xAAAA3344#32 = true := by decide

/-- Misaligned accesses and a misaligned `jmp` raise (D3, D4). -/
theorem test_misaligned :
    stops 0xC6006002 loadStart = true ∧ stops 0xC6106001 loadStart = true ∧
    stops 0xC6506003 loadStart = true ∧ stops 0xC6306001 storeStart = true ∧
    stops 0xC6206002 storeStart = true ∧ stops 0x87C06002 storeStart = true := by decide

/-! ### Branches (vectors 2.5) -/

/-- The sixteen flag states, in the order of the truth table: 0 0 0 0 to 1 1 1 1. -/
def flagStates : List (BitVec 4) := (List.range 16).map (BitVec.ofNat 4)

/-- A state at PC 0x2000 with the flags `f`. -/
def atFlags (f : BitVec 4) : State := (State.resetWith 0x2000#32 []).setIcc (nzvc f)

/-- The column of a branch in the truth table: whether it goes to nPC + 24 (`disp22` = 6). -/
def branchColumn (i : Bool → BitVec 22 → Instr) : List Bool :=
  flagStates.map fun f =>
    match exec (i true 6#22) (atFlags f) with
    | .next t => t.pc == 0x2004#32 && t.npc == 0x201C#32 && !t.annul
    | _ => false

/-- The column of a trap instruction: whether it enters the trap 0x83, with ET = 1 and TBA = 0x10. -/
def trapColumn (i : Reg → Operand2 → Instr) : List Bool :=
  flagStates.map fun f =>
    let s := atFlags f
    match exec (i 0#5 (.imm 3#13))
        { s with psr := { s.psr with et := true }, tbr := { tba := 0x10#20, tt := 0#8 } } with
    | .next t => t.pc == 0x10830#32 && t.npc == 0x10834#32 && !t.psr.et
    | _ => false

/-- A column of the truth table, printed as its sixteen digits. -/
def column (digits : BitVec 16) : List Bool := (List.range 16).map fun k => digits.getMsbD k

theorem test_bn : branchColumn .bn = column 0b0000000000000000#16 := by decide

theorem test_be : branchColumn .be = column 0b0000111100001111#16 := by decide

theorem test_ble : branchColumn .ble = column 0b0011111111001111#16 := by decide

theorem test_bl : branchColumn .bl = column 0b0011001111001100#16 := by decide

theorem test_bleu : branchColumn .bleu = column 0b0101111101011111#16 := by decide

theorem test_bcs : branchColumn .bcs = column 0b0101010101010101#16 := by decide

theorem test_bneg : branchColumn .bneg = column 0b0000000011111111#16 := by decide

theorem test_bvs : branchColumn .bvs = column 0b0011001100110011#16 := by decide

theorem test_ba : branchColumn .ba = column 0b1111111111111111#16 := by decide

theorem test_bne : branchColumn .bne = column 0b1111000011110000#16 := by decide

theorem test_bg : branchColumn .bg = column 0b1100000000110000#16 := by decide

theorem test_bge : branchColumn .bge = column 0b1100110000110011#16 := by decide

theorem test_bgu : branchColumn .bgu = column 0b1010000010100000#16 := by decide

theorem test_bcc : branchColumn .bcc = column 0b1010101010101010#16 := by decide

theorem test_bpos : branchColumn .bpos = column 0b1111111100000000#16 := by decide

theorem test_bvc : branchColumn .bvc = column 0b1100110011001100#16 := by decide

/-! ### Trap instructions: the same table (vectors 2.5, 2.8) -/

theorem test_tn : trapColumn .tn = column 0b0000000000000000#16 := by decide

theorem test_te : trapColumn .te = column 0b0000111100001111#16 := by decide

theorem test_tle : trapColumn .tle = column 0b0011111111001111#16 := by decide

theorem test_tl : trapColumn .tl = column 0b0011001111001100#16 := by decide

theorem test_tleu : trapColumn .tleu = column 0b0101111101011111#16 := by decide

theorem test_tcs : trapColumn .tcs = column 0b0101010101010101#16 := by decide

theorem test_tneg : trapColumn .tneg = column 0b0000000011111111#16 := by decide

theorem test_tvs : trapColumn .tvs = column 0b0011001100110011#16 := by decide

theorem test_ta : trapColumn .ta = column 0b1111111111111111#16 := by decide

theorem test_tne : trapColumn .tne = column 0b1111000011110000#16 := by decide

theorem test_tg : trapColumn .tg = column 0b1100000000110000#16 := by decide

theorem test_tge : trapColumn .tge = column 0b1100110000110011#16 := by decide

theorem test_tgu : trapColumn .tgu = column 0b1010000010100000#16 := by decide

theorem test_tcc : trapColumn .tcc = column 0b1010101010101010#16 := by decide

theorem test_tpos : trapColumn .tpos = column 0b1111111100000000#16 := by decide

theorem test_tvc : trapColumn .tvc = column 0b1100110011001100#16 := by decide

/-! ### Control transfer, windows, traps and state registers (vectors 2.5 to 2.10) -/

/-- A branch with the annul bit that is not taken annuls; `ba,a` does not (D16); a backward target. -/
theorem test_annul_and_target :
    (after (atFlags 0b0000#4) 0x22800006 fun t => t.annul && t.npc == 0x2008#32) = true ∧
    (after (atFlags 0b0000#4) 0x30800006 fun t => !t.annul && t.npc == 0x201C#32) = true ∧
    (after (atFlags 0b0000#4) 0x10A00000 fun t => t.npc == 0xFF802004#32) = true := by decide

theorem test_call :
    (after (start []) 0x40000006 fun t =>
      t.reg 15#5 == 0x1000#32 && t.pc == 0x1004#32 && t.npc == 0x101C#32) = true ∧
    (after (start []) 0x7FFFFFFF fun t => t.npc == 0x1000#32) = true := by decide

theorem test_jmp :
    (after (start [(1#5, 0x5000#32), (2#5, 0x10#32)]) 0x87C04002 fun t =>
      t.reg 3#5 == 0x5010#32 && t.pc == 0x1004#32 && t.npc == 0x5010#32) = true ∧
    (after (start [(1#5, 0x5000#32)]) 0x83C06004 fun t =>
      t.reg 1#5 == 0x5004#32 && t.npc == 0x5004#32) = true := by decide

/-- A state in window 31, supervisor mode, PS = 1, ET = 0. -/
def inWindow31 (l : List (Reg × Word)) : State :=
  let s := State.resetWith 0x3000#32 []
  l.foldl (fun s p => s.setReg p.1 p.2) { s with psr := { s.psr with cwp := 31#5, ps := true } }

theorem test_rett :
    (after (inWindow31 [(1#5, 0x6000#32)]) 0x81C86000 fun t =>
      t.psr.cwp == 0#5 && t.psr.et && t.psr.s && t.psr.ps && t.pc == 0x3004#32 && t.npc == 0x6000#32) = true ∧
    (after (start [(1#5, 0x6000#32)]) 0x81C86002 fun t =>
      t.errorMode && t.psr.cwp == 0#5 && !t.psr.et) = true := by decide

/-- `save` in window 0 goes to window 31, whose ins are the old outs. -/
theorem test_save :
    (after (start [(8#5, 0x111#32), (24#5, 0x222#32)]) 0x81E00000 fun t =>
      t.psr.cwp == 31#5 && t.reg 24#5 == 0x111#32) = true ∧
    (after (start [(14#5, 0x8000#32)]) 0x9DE3BFA0 fun t =>
      t.reg 14#5 == 0x7FA0#32 && t.reg 30#5 == 0x8000#32) = true := by decide

/-- `restore` in window 31 goes to window 0, whose outs are the old ins. -/
theorem test_restore :
    (after (inWindow31 [(8#5, 0x111#32), (24#5, 0x222#32)]) 0x81E80000 fun t =>
      t.psr.cwp == 0#5 && t.reg 8#5 == 0x222#32) = true ∧
    (after (inWindow31 [(24#5, 7#32), (25#5, 8#32)]) 0x91EE0019 fun t =>
      t.reg 8#5 == 0x0F#32) = true := by decide

/-- The state before the trap vectors: PC 0x2000, window 5, user mode, ET = 1, TBA = 0x10. -/
def trapStart (l : List (Reg × Word)) : State :=
  let s := State.resetWith 0x2000#32 []
  l.foldl (fun s p => s.setReg p.1 p.2)
    { s with psr := { s.psr with cwp := 5#5, s := false, et := true }, tbr := { tba := 0x10#20, tt := 0#8 } }

/-- `ta 3, %g0`: trap type 0x83, with everything trap entry saves (R290, R291). -/
theorem test_trap_entry :
    (after (trapStart []) 0x91D02003 fun t =>
      t.pc == 0x10830#32 && t.npc == 0x10834#32 && t.psr.cwp == 4#5 && t.psr.s && !t.psr.ps && !t.psr.et &&
      t.reg 17#5 == 0x2000#32 && t.reg 18#5 == 0x2004#32 && t.tbr.tt == 0x83#8) = true := by decide

/-- The trap number is seven bits of the sum (D18). -/
theorem test_trap_number :
    (after (trapStart [(1#5, 0x70#32), (2#5, 0x15#32)]) 0x91D04002 fun t => t.pc == 0x10850#32) = true ∧
    (after (trapStart []) 0x91D07FFF fun t => t.pc == 0x10FF0#32) = true ∧
    stops 0x91D02003 (start []) = true := by decide

/-- The state before the state-register vectors 2.10. -/
def stateRegs : State :=
  let s := start [(1#5, 0xFF00FF00#32), (2#5, 0x0FF00FF0#32)]
  { s with
    y := 0x11111111#32
    wim := 0x22222222#32
    tbr := { tba := 0x33333#20, tt := 0x44#8 }
    base := 0x55555555#32
    limite := 0x66666666#32
    psr := { icc := nzvc 0b1001#4, s := true, ps := false, et := true, cwp := 9#5 } }

theorem test_rdY : (after stateRegs 0x87400000 fun t => t.reg 3#5 == 0x11111111#32) = true := by decide

theorem test_rdPsr : (after stateRegs 0x87480000 fun t => t.reg 3#5 == 0x009000A9#32) = true := by decide

theorem test_rdWim : (after stateRegs 0x87500000 fun t => t.reg 3#5 == 0x22222222#32) = true := by decide

theorem test_rdTbr : (after stateRegs 0x87580000 fun t => t.reg 3#5 == 0x33333440#32) = true := by decide

theorem test_rdBase : (after stateRegs 0x87404000 fun t => t.reg 3#5 == 0x55555555#32) = true := by decide

theorem test_rdLimite : (after stateRegs 0x87408000 fun t => t.reg 3#5 == 0x66666666#32) = true := by decide

theorem test_wrY : (after stateRegs 0x81804002 fun t => t.y == 0xF0F0F0F0#32) = true := by decide

theorem test_wrPsr :
    (after stateRegs 0x81884002 fun t =>
      t.psr == { icc := nzvc 0b1111#4, s := true, ps := true, et := true, cwp := 16#5 } &&
      psrImage t.psr == 0x00F000F0#32) = true ∧
    (after stateRegs 0x81883FFF fun t => psrImage t.psr == 0x00F000FF#32) = true := by decide

theorem test_wrWim : (after stateRegs 0x81904002 fun t => t.wim == 0xF0F0F0F0#32) = true := by decide

theorem test_wrTbr :
    (after stateRegs 0x81984002 fun t =>
      t.tbr.tba == 0xF0F0F#20 && t.tbr.tt == 0x44#8 && tbrImage t.tbr == 0xF0F0F440#32) = true := by decide

theorem test_wrBase : (after stateRegs 0x83804002 fun t => t.base == 0xF0F0F0F0#32) = true := by decide

theorem test_wrLimite : (after stateRegs 0x85804002 fun t => t.limite == 0xF0F0F0F0#32) = true := by decide

/-- An annulled slot passes whatever word stands there (R29); a word that is no instruction traps. -/
theorem test_annulled_and_illegal :
    (match step { start [] with annul := true } with
      | .next t => !t.annul && t.pc == 0x1004#32 && !t.errorMode
      | _ => false) = true ∧
    (after (trapStart []) 0x00000000 fun t => t.pc == 0x10020#32 && t.tbr.tt == 0x02#8) = true := by decide

/-! ## For each obligation with hypotheses, a state and operands that meet them -/

/-- A state whose next step runs `w`, in user mode with traps enabled. -/
def running (w : Nat) : State := (trapStart [(1#5, 0x6000#32)]).withFetchWord 32 w

/-- `DecodeAfterEncode`, `EncodeAfterDecode`, `DecoderAcceptsExactlyTheTable`: a well-formed instruction;
a word with ignored bits set, which its encoding clears; a word outside every row. -/
theorem test_witness_encoding :
    WellFormed (.st 5#5 14#5 (.imm (-4#13))) = true ∧
    decode 0x87287FE1#32 = .ok (.sll 3#5 1#5 (.imm 1#5)) ∧
    encode (.sll 3#5 1#5 (.imm 1#5)) = 0x87287FE1#32 &&& 0xFFFFE01F#32 := by decide

/-- The word matches a row of the opcode table. -/
def matchesRow (w : Word) : Bool := opcodeRows.any fun r => w &&& r.1 == r.2

/-- What `matchesRow` says. -/
theorem matchesRow_eq_false {w : Word} (h : matchesRow w = false) : ∀ r ∈ opcodeRows, w &&& r.1 ≠ r.2 := by
  simpa [matchesRow] using h

/-- `DecoderAcceptsExactlyTheTable`: a word in a row, and one in none; the table has 147 rows. -/
theorem test_witness_DecoderAcceptsExactlyTheTable :
    matchesRow 0x01000000#32 = true ∧ matchesRow 0xFFFFFFFF#32 = false ∧ opcodeRows.length = 147 := by decide

/-- `StepRunsDecodedInstruction`. -/
theorem test_witness_StepRunsDecodedInstruction :
    let s := running 0x86004002
    s.errorMode = false ∧ s.annul = false ∧
    decode (memRead8 s.mem s.pc ++ memRead8 s.mem (s.pc + 1#32) ++ memRead8 s.mem (s.pc + 2#32)
      ++ memRead8 s.mem (s.pc + 3#32)) = .ok (.add 3#5 1#5 (.reg 2#5)) := by decide

/-- `IllegalWordTraps`, with ET = 1 and with ET = 0. -/
theorem test_witness_IllegalWordTraps :
    ((running 0xFFFFFFFF).errorMode = false ∧ (running 0xFFFFFFFF).annul = false ∧
      (running 0xFFFFFFFF).psr.et = true ∧
      ∀ r ∈ opcodeRows, memRead32 .big (running 0xFFFFFFFF).mem (running 0xFFFFFFFF).pc &&& r.1 ≠ r.2) ∧
    State.reset.errorMode = false ∧ State.reset.annul = false ∧ State.reset.psr.et = false ∧
      ∀ r ∈ opcodeRows, memRead32 .big State.reset.mem State.reset.pc &&& r.1 ≠ r.2 :=
  ⟨⟨by decide, by decide, by decide, matchesRow_eq_false (by decide)⟩, by decide, by decide, by decide,
    matchesRow_eq_false (by decide)⟩

/-- `AnnulBit`: an annulled slot; an instruction that completes with `annul` clear and sets it, and one
that does not; `ErrorModeIsTerminal`: a state in error mode. -/
theorem test_witness_AnnulBit :
    ({ start [] with annul := true }.errorMode = false ∧ { start [] with annul := true }.annul = true) ∧
    (∃ t, exec (.bn true 6#22) (start []) = .next t ∧ (start []).annul = false ∧ t.annul = true) ∧
    (∃ t, exec (.be false 6#22) (start []) = .next t ∧ t.annul = false) ∧
    (enterErrorMode State.reset).errorMode = true :=
  ⟨by decide, ⟨_, rfl, by decide⟩, ⟨_, rfl, by decide⟩, by decide⟩

/-- `StepKeepsInvariant`: a state with the invariant and a step from it, which stores. -/
theorem test_witness_StepKeepsInvariant :
    Inv (running 0xC2204000) ∧ ∃ t, step (running 0xC2204000) = .next t ∧ t.mem ≠ (running 0xC2204000).mem :=
  ⟨⟨by decide, by unfold Aligned4; decide, by unfold Aligned4; decide, by decide, by decide⟩, _, rfl, by decide⟩

/-- `VisibleRegistersAreCells`: the first and last register of each range. -/
theorem test_witness_VisibleRegistersAreCells :
    (1 ≤ (1#5 : Reg).toNat ∧ (7#5 : Reg).toNat ≤ 7) ∧ 8 ≤ (8#5 : Reg).toNat ∧ 8 ≤ (31#5 : Reg).toNat ∧
    (31#5 : Reg) ≠ 0#5 ∧ (8#5 : Reg) ≠ 7#5 := by decide

/-- `BigEndianReadAfterWrite`: a memory in canonical form, at the top of the address space, and the first
address beyond each width. -/
theorem test_witness_BigEndianReadAfterWrite :
    Memory.wf [(0, 1#8), (0xFFFFFFFF, 2#8)] = true ∧
    1 ≤ (0#32 - 0xFFFFFFFF#32 : Word).toNat ∧ 2 ≤ (1#32 - 0xFFFFFFFF#32 : Word).toNat ∧
    4 ≤ (3#32 - 0xFFFFFFFF#32 : Word).toNat := by decide

/-- `LoadsComplete`, `StoresComplete`, `JmpCompletes`, `RettCompletes`: a word address; a half-word
address that is not one; a canonical memory. -/
theorem test_witness_aligned :
    Memory.wf storeStart.mem = true ∧
    (storeStart.reg 1#5 + storeStart.operand2 (.imm 4#13)).toNat % 4 = 0 ∧
    (storeStart.reg 1#5 + storeStart.operand2 (.imm 2#13)).toNat % 2 = 0 ∧
    (storeStart.reg 1#5 + storeStart.operand2 (.imm 2#13)).toNat % 4 ≠ 0 := by decide

/-- `MisalignedAddressTraps`: both disjuncts, with ET = 1 and with ET = 0. -/
theorem test_witness_MisalignedAddressTraps :
    let s := trapStart [(1#5, 0x6000#32)]
    s.psr.et = true ∧ (s.reg 1#5 + s.operand2 (.imm 2#13)).toNat % 4 ≠ 0 ∧
    (s.reg 1#5 + s.operand2 (.imm 3#13)).toNat % 2 ≠ 0 ∧ (start []).psr.et = false ∧
    ((start []).reg 1#5 + (start []).operand2 (.imm 1#13)).toNat % 2 ≠ 0 := by decide

/-- `BranchesCompareAfterSubcc`: `subcc` completes. -/
theorem test_witness_BranchesCompareAfterSubcc :
    ∃ t, exec (.subcc 3#5 1#5 (.reg 2#5)) (start [(1#5, 5#32), (2#5, 7#32)]) = .next t ∧
      t.psr.icc = nzvc 0b1001#4 := ⟨_, rfl, by decide⟩

/-- `UnsignedQuotients`: the greatest Y below the divisor; `QuotientOverflowIsOpen`: the least that is
not. -/
theorem test_witness_unsigned_division :
    (4#32 : Word).toNat < ((start []).operand2U (.imm 5#13)).toNat ∧
    (start []).operand2U (.imm 5#13) ≠ 0#32 ∧
    ((start []).operand2U (.imm 5#13)).toNat ≤ (5#32 : Word).toNat := by decide

/-- `SignedQuotients`: -7 by 2 is -3, remainder -1; and the quotient -2^31, at the end of the range. -/
theorem test_witness_SignedQuotients :
    let s := (start [(1#5, 0xFFFFFFF9#32), (2#5, 0x80000000#32)]).setY 0xFFFFFFFF#32
    s.y.toInt * 2 ^ 32 + (s.reg 1#5).toNat = (-3) * (s.operand2 (.imm 2#13)).toInt + (-1) ∧
    (-1 : Int).natAbs < (s.operand2 (.imm 2#13)).toInt.natAbs ∧
    s.y.toInt * 2 ^ 32 + (s.reg 2#5).toNat = (-2 ^ 31) * (s.operand2 (.imm 1#13)).toInt + 0 ∧
    (0 : Int).natAbs < (s.operand2 (.imm 1#13)).toInt.natAbs := by decide

/-- `DivisionByZeroTraps`: the divisor zero, with ET = 1 and with ET = 0. -/
theorem test_witness_DivisionByZeroTraps :
    (trapStart []).operand2U (.reg 2#5) = 0#32 ∧ (trapStart []).psr.et = true ∧
    (start []).operand2 (.imm 0#13) = 0#32 ∧ (start []).psr.et = false := by decide

/-- `QuotientOverflowIsOpen`, signed: the quotients 2^31 and -2^31 - 1, the first beyond the range. -/
theorem test_witness_signed_overflow :
    let s := (start [(1#5, 0x80000000#32)]).setY 0xFFFFFFFF#32
    let u := (start [(1#5, 0x80000001#32)]).setY 0#32
    2 ^ 31 - 1 < (s.y.toInt * 2 ^ 32 + (s.reg 1#5).toNat : Int).tdiv (s.operand2 (.imm (-1#13))).toInt ∧
    (u.y.toInt * 2 ^ 32 + (u.reg 1#5).toNat : Int).tdiv (u.operand2 (.imm (-1#13))).toInt < -2 ^ 31 ∧
    s.operand2 (.imm (-1#13)) ≠ 0#32 := by decide

/-- `BaAnnulParameter`: `ba,a` under the parameter, which annuls; `be,a` taken under it. -/
theorem test_witness_BaAnnulParameter :
    (∃ t, branchWith { settings with baAnnuls := true } 8#4 true 6#22 (start []) = .next t ∧
      (start []).annul = false ∧ condTaken 8#4 (start []).psr.icc = true ∧ t.annul = true) ∧
    condTaken 1#4 (atFlags 0b0100#4).psr.icc = true :=
  ⟨⟨_, rfl, by decide⟩, by decide⟩

/-- `RestoreAfterSave`, `SaveAfterRestore`: the first target around the ring, from window 0 and from window
31, is a cell of its own, and a cell that neither target is. -/
theorem test_witness_RestoreAfterSave :
    windowIndex ((start []).psr.cwp - 1#5) 16#5 ≠ windowIndex (start []).psr.cwp 16#5 ∧
    windowIndex ((inWindow31 []).psr.cwp + 1#5) 16#5 ≠ windowIndex (inWindow31 []).psr.cwp 16#5 ∧
    windowIndex (start []).psr.cwp 9#5 ≠ windowIndex ((start []).psr.cwp - 1#5) 16#5 ∧
    windowIndex (start []).psr.cwp 9#5 ≠ windowIndex (start []).psr.cwp 16#5 := by decide

/-- `TakenTrapsEnter`, `OtherTrapInstructions`: a condition that holds and one that does not, with ET = 1
and with ET = 0. -/
theorem test_witness_trap_instructions :
    (trapStart []).psr.et = true ∧ (start []).psr.et = false ∧
    (.ta 0#5 (.imm 3#13), true) ∈ trapRows 0#5 (.imm 3#13) (trapStart []).psr.icc ∧
    (.te 0#5 (.imm 3#13), false) ∈ trapRows 0#5 (.imm 3#13) (trapStart []).psr.icc ∧
    (.tne 0#5 (.imm 3#13), true) ∈ trapRows 0#5 (.imm 3#13) (start []).psr.icc := by decide

/-- `ExceptionEntersTrap`, `ExceptionEntersErrorMode`, `ReturnPairUndoesTrapEntry`. -/
theorem test_witness_exceptions :
    (trapStart []).psr.et = true ∧ Aligned4 (trapStart []).pc ∧ Aligned4 (trapStart []).npc ∧
    (start []).psr.et = false :=
  ⟨by decide, by unfold Aligned4; decide, by unfold Aligned4; decide, by decide⟩

/-- `OnlyTheseMoveTheWindow`: a `save`, and a trap, each of which moves it. -/
theorem test_witness_OnlyTheseMoveTheWindow :
    (∃ t, step (running 0x81E00000) = .next t ∧ t.psr.cwp ≠ (running 0x81E00000).psr.cwp) ∧
    ∃ t, step (running 0x91D02003) = .next t ∧ t.psr.cwp ≠ (running 0x91D02003).psr.cwp :=
  ⟨⟨_, rfl, by decide⟩, _, rfl, by decide⟩

/-- `OnlyTheseWriteFlags`: `orcc %r0, %r0, %r2` with `%r2` = 0 sets Z. -/
theorem test_witness_OnlyTheseWriteFlags :
    ∃ t, step (running 0x80908000) = .next t ∧ t.psr.icc ≠ (running 0x80908000).psr.icc :=
  ⟨_, rfl, by decide⟩

/-- `OnlyStoresWriteMemory`: `st %r1, 0, %r1` changes the byte 0x6002. -/
theorem test_witness_OnlyStoresWriteMemory :
    ∃ t, step (running 0xC2206000) = .next t ∧
      memRead8 t.mem 0x6002#32 ≠ memRead8 (running 0xC2206000).mem 0x6002#32 := ⟨_, rfl, by decide⟩

/-- `OnlyTheseWriteStateRegisters`: a step that changes each register. -/
theorem test_witness_OnlyTheseWriteStateRegisters :
    (∃ t, step (running 0x81804002) = .next t ∧ t.y ≠ (running 0x81804002).y) ∧
    (∃ t, step (running 0x81904002) = .next t ∧ t.wim ≠ (running 0x81904002).wim) ∧
    (∃ t, step (running 0x83804002) = .next t ∧ t.base ≠ (running 0x83804002).base) ∧
    (∃ t, step (running 0x85804002) = .next t ∧ t.limite ≠ (running 0x85804002).limite) ∧
    (∃ t, step (running 0x81984002) = .next t ∧ t.tbr.tba ≠ (running 0x81984002).tbr.tba) ∧
    ∃ t, step (running 0x91D02003) = .next t ∧ t.tbr.tt ≠ (running 0x91D02003).tbr.tt :=
  ⟨⟨_, rfl, by decide⟩, ⟨_, rfl, by decide⟩, ⟨_, rfl, by decide⟩, ⟨_, rfl, by decide⟩,
    ⟨_, rfl, by decide⟩, _, rfl, by decide⟩

/-- `ModeChanges`: a trap from user mode, and `wr %psr, 0x80, %r2` from user mode, and `rett` from supervisor mode with PS = 0. -/
theorem test_witness_ModeChanges :
    (∃ t, step (running 0x91D02003) = .next t ∧ t.psr.s ≠ (running 0x91D02003).psr.s) ∧
    (∃ t, step (running 0x8188A080) = .next t ∧ t.psr.s ≠ (running 0x8188A080).psr.s) ∧
    ∃ t, step ((start []).withFetchWord 32 0x81C82000) = .next t ∧
      t.psr.s ≠ ((start []).withFetchWord 32 0x81C82000).psr.s :=
  ⟨⟨_, rfl, by decide⟩, ⟨_, rfl, by decide⟩, _, rfl, by decide⟩

/-- `ErrorModeNeedsTrapsDisabled`: the step from reset, whose memory holds no instruction. -/
theorem test_witness_ErrorModeNeedsTrapsDisabled :
    ∃ t, step State.reset = .next t ∧ t.errorMode = true := ⟨_, rfl, by decide⟩

/-- Every parameter of R4 that adds a check, turned on, and one byte absent. -/
def checking : Params :=
  { settings with present := fun a => a != 0x6003#32, wimCheck := true, privCheck := true }

/-- `WindowCheckParameter`: a state in window 0 with the WIM bits of both windows beside it set, and one
with both clear. -/
theorem test_witness_WindowCheckParameter :
    let s := { start [] with wim := 0x80000002#32 }
    { checking with privCheck := false }.privCheck = false ∧ checking.wimCheck = true ∧
    s.wim.getLsbD ((s.psr.cwp.toNat + 31) % 32) = true ∧
    s.wim.getLsbD ((s.psr.cwp.toNat + 1) % 32) = true ∧ settings.wimCheck = false ∧
    (start []).wim.getLsbD (((start []).psr.cwp.toNat + 31) % 32) = false ∧
    (start []).wim.getLsbD (((start []).psr.cwp.toNat + 1) % 32) = false := by decide

/-- `PrivilegeCheckParameter`: user mode, supervisor mode, a reserved register, and `%y`, which stays
accessible in user mode. -/
theorem test_witness_PrivilegeCheckParameter :
    checking.privCheck = true ∧ (trapStart []).psr.s = false ∧ (start []).psr.s = true ∧
    settings.privCheck = false ∧ StateReg.psr ≠ .y ∧
    (match rdWith checking .y 3#5 (trapStart []), rdWith checking .psr 3#5 (trapStart []) with
      | .next t, .next u => t.pc == 0x2004#32 && u.tbr.tt == 0x03#8
      | _, _ => false) = true :=
  ⟨rfl, rfl, rfl, rfl, by decide, by decide⟩

/-- `AbsentMemoryParameter`: the last byte of a word, of a half word and of a byte is absent, at aligned
addresses and, from 0x6001, at a misaligned one, and the same byte under PC; at 0x6004 every byte is there,
in big-endian order. -/
theorem test_witness_AbsentMemoryParameter :
    let s := { trapStart [(1#5, 0x6000#32)] with pc := 0x6000#32 }
    checking.translate = settings.translate ∧ checking.byteOrder = .big ∧
    checking.present (s.reg 1#5 + s.operand2 (.imm 0#13) + BitVec.ofNat 32 3) = false ∧
    checking.present (s.reg 1#5 + s.operand2 (.imm 2#13) + BitVec.ofNat 32 1) = false ∧
    checking.present (s.reg 1#5 + s.operand2 (.imm 3#13) + BitVec.ofNat 32 0) = false ∧
    checking.present (s.reg 1#5 + s.operand2 (.imm 1#13) + BitVec.ofNat 32 2) = false ∧
    checking.present (s.pc + BitVec.ofNat 32 3) = false ∧
    (∀ k < 4, checking.present (s.reg 1#5 + s.operand2 (.imm 4#13) + BitVec.ofNat 32 k) = true) ∧
    ∀ k < 4, checking.present ((start []).pc + BitVec.ofNat 32 k) = true :=
  ⟨rfl, rfl, by decide, by decide, by decide, by decide, by decide, by decide, by decide⟩

/-- The state in which the next step runs the words `w0` and, at PC + 4, `w1`. -/
def runningTwo (w0 w1 : Word) : State :=
  withBytes (withBytes (start [(8#5, 7#32)]) 0x1000#32 (bytesOfWord .big w0)) 0x1004#32 (bytesOfWord .big w1)

/-- `RunsEnd`: a run that stops under each of the four conventions, (b) also in an annulled slot; one of one
step that enters error mode, and one of two steps, which faults. -/
theorem test_witness_RunsEnd :
    (∃ t, runUntil (.afterSteps 1) 1 0 (runningTwo 0x01000000#32 0#32) = .stopped t none) ∧
    (∃ t, runUntil (.atPc 0x1004#32) 5 0 (runningTwo 0x20800006#32 0#32) = .stopped t none ∧ t.annul = true) ∧
    (∃ t, runUntil .selfBranch 5 0 (runningTwo 0x10BFFFFF#32 0x01000000#32) = .stopped t none) ∧
    (∃ t, runUntil .takenTa 5 0 (runningTwo 0x01000000#32 0x91D02003#32) =
      .stopped t (some { number := 3#7, o0 := 7#32 })) ∧
    (enterErrorMode State.reset).errorMode = true ∧
    (∃ t, Host.Core.run Sys2Proof.core 1 State.reset = .next t ∧ t.errorMode = true) ∧
    Host.Core.run Sys2Proof.core 2 State.reset = .fault .errorMode :=
  ⟨⟨_, rfl⟩, ⟨_, rfl, by decide⟩, ⟨_, rfl⟩, ⟨_, rfl⟩, by decide, ⟨_, rfl, by decide⟩, rfl⟩

end Sys2Proof.Tests
end

section
/-! PROOFS. Everything one instruction can do, said once: it raises an exception, or it completes with one
of seven kinds of effect. Claims about all 86 instructions are then claims about seven kinds. -/

namespace Sys2Proof.Machine

/-! ## What an instruction that completes does -/

/-- The effect of an instruction that completes, with the values it computed. -/
inductive Action where
  /-- `v` to `rd`, and where given `y` to Y and `f` to the condition codes; then the advance. -/
  | result (rd : Reg) (v : Word) (y : Option Word) (f : Option Icc)
  /-- `bytes` to memory at rising addresses from `a`; then the advance. -/
  | store (a : Word) (bytes : List Byte)
  /-- A delayed transfer to `target`, which may annul the next instruction; the advance is one of these. -/
  | move (annuls : Bool) (target : Word)
  /-- `v` to `rd`; then a delayed transfer to `target`. -/
  | link (rd : Reg) (v target : Word)
  /-- The return from a trap, to `dir`. -/
  | trapReturn (dir : Word)
  /-- Window `w` is entered and receives `v` in `rd`; then the advance. -/
  | window (w : BitVec 5) (rd : Reg) (v : Word)
  /-- `v` to a state register; then the advance. -/
  | stateWrite (r : StateReg) (v : Word)

/-- The state after an action. -/
def Action.apply (s : State) : Action → State
  | .result rd v y f =>
    { s.setReg rd v with y := y.getD s.y, psr := { s.psr with icc := f.getD s.psr.icc } }.advance
  | .store a bytes => { s with mem := memWriteBytes s.mem a bytes }.advance
  | .move annuls target => (s.transfer target).annulNextIf annuls
  | .link rd v target => (s.setReg rd v).transfer target
  | .trapReturn dir => returnFromTrap dir s
  | .window w rd v => ((s.setCwp w).setReg rd v).advance
  | .stateWrite r v => (s.writeStateReg r v).advance

/-- The action sets the annul bit. -/
def Action.annuls : Action → Bool
  | .move annuls _ => annuls
  | .result .. | .store .. | .link .. | .trapReturn _ | .window .. | .stateWrite .. => false

/-- Which instructions perform an action in `s`, and what is known of its values. -/
def Action.PermittedTo (i : Instr) (s : State) : Action → Prop
  | .result _ _ y f => (y ≠ none → writesY i = true) ∧ (f ≠ none → writesIcc i = true)
  | .store a bytes => ∃ rd ro1 o, a = s.dir ro1 o ∧
      ((i = .st rd ro1 o ∧ bytes.length = 4) ∨ (i = .sth rd ro1 o ∧ bytes.length = 2) ∨
       (i = .stb rd ro1 o ∧ bytes.length = 1))
  | .move _ target | .link _ _ target => Aligned4 s.npc → Aligned4 target
  | .trapReturn dir => Aligned4 dir ∧ ∃ ro1 o, i = .rett ro1 o
  | .window .. => (∃ rd ro1 o, i = .save rd ro1 o) ∨ ∃ rd ro1 o, i = .restore rd ro1 o
  | .stateWrite r v => ∃ ro1 o, i = wrOf r ro1 o ∧ v = s.wrValue ro1 o

/-- What an instruction does from `s`, and does alike with the annul bit set or cleared beforehand: it
raises, or performs an action. -/
inductive Behaves (i : Instr) (s : State) : Prop
  | raises (e : Exc) (plain : ¬ annulsNext s.psr.icc i)
      (run : ∀ b, exec i { s with annul := b } = raise e { s with annul := b })
  | completes (a : Action) (permitted : a.PermittedTo i s)
      (annuls : a.annuls = true ↔ annulsNext s.psr.icc i)
      (run : ∀ b, exec i { s with annul := b } = .next (a.apply { s with annul := b }))

/-! ## Which instructions can annul the next one (R171) -/

/-- The relative branches. -/
def isBranch : Instr → Bool
  | .bn .. | .ba .. | .be .. | .bne .. | .ble .. | .bg .. | .bl .. | .bge .. => true
  | .bleu .. | .bgu .. | .bcs .. | .bcc .. | .bneg .. | .bpos .. | .bvs .. | .bvc .. => true
  | _ => false

theorem isBranch_of_mem_branchRows {a taken : Bool} {d : BitVec 22} {f : Icc} {i : Instr}
    (h : (i, taken) ∈ branchRows a d f) : isBranch i = true := by
  have rows : ∀ row ∈ branchRows a d f, isBranch row.1 = true := by simp [branchRows, isBranch]
  exact rows _ h

theorem not_annulsNext {i : Instr} (h : isBranch i = false) (f : Icc) : ¬ annulsNext f i := by
  rintro ⟨d, hmem⟩
  simp [isBranch_of_mem_branchRows hmem] at h

/-- The form `Behaves` asks for of an action that leaves the annul bit alone. -/
theorem never_annuls {i : Instr} (h : isBranch i = false) (f : Icc) : false = true ↔ annulsNext f i := by
  simp [not_annulsNext h f]

/-! ## Multiples of 4 -/

theorem aligned4_of_isWordAligned {a : Word} (h : isWordAligned a = true) : Aligned4 a := by
  rw [isWordAligned_eq, decide_eq_true_eq] at h
  exact h

theorem aligned4_add {a b : Word} (ha : Aligned4 a) (hb : Aligned4 b) : Aligned4 (a + b) := by
  unfold Aligned4 at *
  bv_omega

/-- The advance keeps nPC a multiple of 4 (R19). -/
theorem aligned4_add_four {a : Word} (h : Aligned4 a) : Aligned4 (a + 4#32) :=
  aligned4_add h (by unfold Aligned4; decide)

theorem aligned4_offset22 (d : BitVec 22) : Aligned4 (offset22 d) := by
  simp only [Aligned4, offset22, sext32, BitVec.toNat_signExtend, BitVec.toNat_setWidth,
    BitVec.toNat_append, BitVec.toNat_ofNat, Nat.zero_mod, Nat.or_zero, Nat.shiftLeft_eq]
  split <;> omega

theorem aligned4_offset30 (d : BitVec 30) : Aligned4 (offset30 d) := by
  simp only [Aligned4, offset30, BitVec.toNat_append, BitVec.toNat_ofNat, Nat.zero_mod, Nat.or_zero,
    Nat.shiftLeft_eq]
  omega

theorem aligned4_trapVector (tba : BitVec 20) (tt : BitVec 8) : Aligned4 (trapVector tba tt) := by
  simp only [Aligned4, trapVector, BitVec.toNat_append, BitVec.toNat_ofNat, Nat.zero_mod, Nat.or_zero,
    Nat.shiftLeft_eq]
  omega

/-! ## The shared operations at the spec's settings -/

theorem loadWith_settings (n : Nat) (al : Word → Bool) (value : Memory → Word → Word) (rd ro1 : Reg)
    (o : Operand2) (s : State) : loadWith settings n al value rd ro1 o s =
      if al (s.dir ro1 o) then .next (s.setReg rd (value s.mem (s.dir ro1 o))).advance
      else raise (.memAddressNotAligned (s.dir ro1 o)) s := by
  rw [loadWith, dataAddress_settings]
  cases al (s.dir ro1 o) <;> rfl

theorem storeWith_settings (n : Nat) (al : Word → Bool) (store : Memory → Word → Word → Memory)
    (rd ro1 : Reg) (o : Operand2) (s : State) : storeWith settings n al store rd ro1 o s =
      if al (s.dir ro1 o) then .next { s with mem := store s.mem (s.dir ro1 o) (s.reg rd) }.advance
      else raise (.memAddressNotAligned (s.dir ro1 o)) s := by
  rw [storeWith, dataAddress_settings]
  cases al (s.dir ro1 o) <;> rfl

/-! ## What the instructions of one shared operation do

Each lemma asks that the instruction is the operation at every state (`hi`), and that the values it hands to
the operation do not depend on the annul bit. -/

section
variable {i : Instr} {s : State} {rd ro1 : Reg} {o : Operand2}

theorem behaves_of_load (n : Nat) (al : Word → Bool) (value : Memory → Word → Word)
    (hi : ∀ u, exec i u = loadWith settings n al value rd ro1 o u)
    (plain : isBranch i = false) : Behaves i s := by
  by_cases hal : al (s.dir ro1 o) = true
  · refine .completes (.result rd (value s.mem (s.dir ro1 o)) none none) (by simp [Action.PermittedTo])
      (never_annuls plain _) fun b => ?_
    rw [hi, loadWith_settings]
    exact if_pos hal
  · refine .raises (.memAddressNotAligned (s.dir ro1 o)) (not_annulsNext plain _) fun b => ?_
    rw [hi, loadWith_settings]
    exact if_neg hal

theorem behaves_of_store {n : Nat} {al : Word → Bool} {store : Memory → Word → Word → Memory}
    (bytes : Word → List Byte) (hi : ∀ u, exec i u = storeWith settings n al store rd ro1 o u)
    (hbytes : ∀ m a v, store m a v = memWriteBytes m a (bytes v))
    (permitted : Action.PermittedTo i s (.store (s.dir ro1 o) (bytes (s.reg rd))))
    (plain : isBranch i = false) : Behaves i s := by
  by_cases hal : al (s.dir ro1 o) = true
  · refine .completes _ permitted (never_annuls plain _) fun b => ?_
    rw [hi, storeWith_settings, hbytes]
    exact if_pos hal
  · refine .raises (.memAddressNotAligned (s.dir ro1 o)) (not_annulsNext plain _) fun b => ?_
    rw [hi, storeWith_settings]
    exact if_neg hal

theorem behaves_of_aluWrite {r : State → Word} (hi : ∀ u, exec i u = aluWrite rd (r u) u)
    (hr : ∀ b, r { s with annul := b } = r s) (plain : isBranch i = false) : Behaves i s := by
  refine .completes (.result rd (r s) none none) (by simp [Action.PermittedTo])
    (never_annuls plain _) fun b => ?_
  rw [hi, hr]
  rfl

theorem behaves_of_aluWriteCc {r : State → Word} {f : State → Icc}
    (hi : ∀ u, exec i u = aluWriteCc rd (r u) (f u) u) (hr : ∀ b, r { s with annul := b } = r s)
    (hf : ∀ b, f { s with annul := b } = f s) (hIcc : writesIcc i = true)
    (plain : isBranch i = false) : Behaves i s := by
  refine .completes (.result rd (r s) none (some (f s))) (by simp [Action.PermittedTo, hIcc])
    (never_annuls plain _) fun b => ?_
  rw [hi, hr, hf]
  rfl

theorem behaves_of_mulWrite {p : State → BitVec 64}
    (hi : ∀ u, exec i u = .next (mulWrite rd (p u) u).advance)
    (hp : ∀ b, p { s with annul := b } = p s) (hY : writesY i = true)
    (plain : isBranch i = false) : Behaves i s := by
  refine .completes (.result rd (productLow (p s)) (some (productHigh (p s))) none)
    (by simp [Action.PermittedTo, hY]) (never_annuls plain _) fun b => ?_
  rw [hi, hp]
  rfl

theorem behaves_of_mulWriteCc {p : State → BitVec 64}
    (hi : ∀ u, exec i u = .next ((mulWrite rd (p u) u).setIcc (flagsMul (productLow (p u)))).advance)
    (hp : ∀ b, p { s with annul := b } = p s) (hY : writesY i = true)
    (hIcc : writesIcc i = true) (plain : isBranch i = false) : Behaves i s := by
  refine .completes
    (.result rd (productLow (p s)) (some (productHigh (p s))) (some (flagsMul (productLow (p s)))))
    (by simp [Action.PermittedTo, hY, hIcc]) (never_annuls plain _) fun b => ?_
  rw [hi, hp]
  rfl

/-- A division writes `rd`, Y and, for `cc`, the condition codes, whether or not the quotient fits. -/
theorem divWrite_eq_apply (cc : Bool) (q rem : Word) (f : Icc) :
    divWrite cc rd q rem f s =
      Action.apply s (.result rd q (some rem) (if cc then some f else none)) := by
  cases cc <;> rfl

theorem behaves_of_divide {signed cc : Bool} {divide : Word → Word → Word → Option (Word × Word)}
    {x y : State → Word} (hi : ∀ u, exec i u = divideWith signed divide cc rd (x u) (y u) u)
    (hx : ∀ b, x { s with annul := b } = x s) (hy : ∀ b, y { s with annul := b } = y s)
    (hY : writesY i = true) (hIcc : cc = true → writesIcc i = true)
    (plain : isBranch i = false) : Behaves i s := by
  have permitted (q rem : Word) (f : Icc) :
      Action.PermittedTo i s (.result rd q (some rem) (if cc then some f else none)) :=
    ⟨fun _ => hY, fun h => hIcc (by cases cc <;> simp_all)⟩
  by_cases h0 : y s = 0#32
  · refine .raises .divisionByZero (not_annulsNext plain _) fun b => ?_
    rw [hi, divideWith, hy, if_pos h0]
  · cases hq : divide s.y (x s) (y s) with
    | some qr =>
      refine .completes _ (permitted qr.1 qr.2 (flagsDiv qr.1)) (never_annuls plain _) fun b => ?_
      rw [hi, divideWith, hx, hy, if_neg h0, ← divWrite_eq_apply]
      simp only [hq]
    | none =>
      let d := Config.divOverflow signed s.y (x s) (y s)
      refine .completes _ (permitted d.quot d.rem (flagsDivOverflow d)) (never_annuls plain _)
        fun b => ?_
      rw [hi, divideWith, hx, hy, if_neg h0, ← divWrite_eq_apply]
      simp only [hq, d]

theorem behaves_of_branch {cond : BitVec 4} {a : Bool} {d : BitVec 22}
    (hi : ∀ u, exec i u = branchWith settings cond a d u)
    (hannuls : annulsNext s.psr.icc i ↔ a = true ∧ condTaken cond s.psr.icc = false) :
    Behaves i s := by
  cases hc : condTaken cond s.psr.icc
  · refine .completes (.move a (s.npc + 4#32)) aligned4_add_four (by simp [Action.annuls, hannuls, hc])
      fun b => ?_
    rw [hi, branchWith]
    exact if_neg (by simp [hc])
  · refine .completes (.move false (s.npc + offset22 d)) (aligned4_add · (aligned4_offset22 d))
      (by simp [Action.annuls, hannuls, hc]) fun b => ?_
    rw [hi, branchWith]
    simp only [settings_baAnnuls, Bool.and_false, Bool.false_and]
    exact if_pos hc

/-- The advance alone. -/
theorem behaves_of_advance
    (run : ∀ b, exec i { s with annul := b } = .next ({ s with annul := b } : State).advance)
    (plain : isBranch i = false) : Behaves i s :=
  .completes (.move false (s.npc + 4#32)) aligned4_add_four (never_annuls plain _) run

theorem behaves_of_trapIf {cond : BitVec 4} (hi : ∀ u, exec i u = trapIf cond ro1 o u)
    (plain : isBranch i = false) : Behaves i s := by
  by_cases hc : condTaken cond s.psr.icc = true
  · refine .raises (.trapInstruction (trapNumber s ro1 o)) (not_annulsNext plain _) fun b => ?_
    rw [hi, trapIf]
    exact if_pos hc
  · refine behaves_of_advance (fun b => ?_) plain
    rw [hi, trapIf]
    exact if_neg hc

theorem behaves_jmp : Behaves (.jmp rd ro1 o) s := by
  by_cases hal : isWordAligned (s.dir ro1 o) = true
  · exact .completes (.link rd (s.dir ro1 o) (s.dir ro1 o)) (fun _ => aligned4_of_isWordAligned hal)
      (never_annuls rfl _) fun _ => if_pos hal
  · exact .raises (.memAddressNotAligned (s.dir ro1 o)) (not_annulsNext rfl _) fun _ => if_neg hal

theorem behaves_rett : Behaves (.rett ro1 o) s := by
  by_cases hal : isWordAligned (s.dir ro1 o) = true
  · exact .completes (.trapReturn (s.dir ro1 o)) ⟨aligned4_of_isWordAligned hal, ro1, o, rfl⟩
      (never_annuls rfl _) fun _ => if_pos hal
  · exact .raises (.memAddressNotAligned (s.dir ro1 o)) (not_annulsNext rfl _) fun _ => if_neg hal

theorem behaves_call (d : BitVec 30) : Behaves (.call d) s :=
  .completes (.link 15#5 s.pc (s.npc + offset30 d)) (aligned4_add · (aligned4_offset30 d))
    (never_annuls rfl _) fun _ => rfl

theorem behaves_save : Behaves (.save rd ro1 o) s :=
  .completes (.window (s.psr.cwp - 1#5) rd (s.reg ro1 + s.operand2 o)) (.inl ⟨rd, ro1, o, rfl⟩)
    (never_annuls rfl _) fun _ => rfl

theorem behaves_restore : Behaves (.restore rd ro1 o) s :=
  .completes (.window (s.psr.cwp + 1#5) rd (s.reg ro1 + s.operand2 o)) (.inr ⟨rd, ro1, o, rfl⟩)
    (never_annuls rfl _) fun _ => rfl

theorem behaves_rdOf (r : StateReg) : Behaves (rdOf r rd) s := by
  have hi (u : State) : exec (rdOf r rd) u = aluWrite rd (u.readStateReg r) u := by cases r <;> rfl
  exact behaves_of_aluWrite hi (fun _ => by cases r <;> rfl) (by cases r <;> rfl)

theorem behaves_wrOf (r : StateReg) : Behaves (wrOf r ro1 o) s := by
  refine .completes (.stateWrite r (s.wrValue ro1 o)) ⟨ro1, o, rfl, rfl⟩
    (never_annuls (by cases r <;> rfl) _) fun b => ?_
  cases r <;> rfl

end

/-! ## Every instruction -/

/-- What each of the 86 instructions does, by the operation it shares with others. -/
theorem exec_behaves (i : Instr) (s : State) : Behaves i s := by
  cases i with
  | stb rd ro1 o =>
    exact behaves_of_store (n := 1) (rd := rd) (al := anyAlignment) (fun v => [v.extractLsb' 0 8])
      (fun _ => rfl) (fun _ _ _ => rfl) ⟨rd, ro1, o, rfl, by simp⟩ rfl
  | sth rd ro1 o =>
    exact behaves_of_store (fun v => bytesOfHalf .big (v.extractLsb' 0 16)) (fun _ => rfl)
      (fun _ _ _ => rfl) ⟨rd, ro1, o, rfl, by simp [bytesOfHalf]⟩ rfl
  | st rd ro1 o =>
    exact behaves_of_store (bytesOfWord .big) (fun _ => rfl) (fun _ _ _ => rfl)
      ⟨rd, ro1, o, rfl, by simp [bytesOfWord]⟩ rfl
  | ldsb rd ro1 o =>
    exact behaves_of_load 1 anyAlignment (fun m a => sext32 (memRead8 m a)) (fun _ => rfl) rfl
  | ldsh rd ro1 o =>
    exact behaves_of_load 2 isHalfAligned (fun m a => sext32 (memRead16 .big m a)) (fun _ => rfl) rfl
  | ldub rd ro1 o =>
    exact behaves_of_load 1 anyAlignment (fun m a => zext32 (memRead8 m a)) (fun _ => rfl) rfl
  | lduh rd ro1 o =>
    exact behaves_of_load 2 isHalfAligned (fun m a => zext32 (memRead16 .big m a)) (fun _ => rfl) rfl
  | ld rd ro1 o =>
    exact behaves_of_load 4 isWordAligned (memRead32 .big) (fun _ => rfl) rfl
  | sethi rd c =>
    exact behaves_of_aluWrite (fun _ => rfl) (fun _ => rfl) rfl
  | add rd ro1 o | and rd ro1 o | andn rd ro1 o | or rd ro1 o | orn rd ro1 o | sub rd ro1 o
  | xor rd ro1 o | xnor rd ro1 o | sll rd ro1 o | sra rd ro1 o | srl rd ro1 o =>
    exact behaves_of_aluWrite (fun _ => rfl) (fun _ => rfl) rfl
  | addcc rd ro1 o | andcc rd ro1 o | andncc rd ro1 o | orcc rd ro1 o | orncc rd ro1 o
  | subcc rd ro1 o | xorcc rd ro1 o | xnorcc rd ro1 o =>
    exact behaves_of_aluWriteCc (fun _ => rfl) (fun _ => rfl) (fun _ => rfl) rfl rfl
  | umul rd ro1 o | smul rd ro1 o =>
    exact behaves_of_mulWrite (fun _ => rfl) (fun _ => rfl) rfl rfl
  | umulcc rd ro1 o | smulcc rd ro1 o =>
    exact behaves_of_mulWriteCc (fun _ => rfl) (fun _ => rfl) rfl rfl rfl
  | udiv rd ro1 o | udivcc rd ro1 o | sdiv rd ro1 o | sdivcc rd ro1 o =>
    exact behaves_of_divide (fun _ => rfl) (fun _ => rfl) (fun _ => rfl) rfl (by simp [writesIcc]) rfl
  | bn a d =>
    exact behaves_of_branch (cond := 0b0000#4) (d := d) (fun _ => rfl) (by simp [annulsNext, branchRows])
  | ba a d =>
    exact behaves_of_branch (cond := 0b1000#4) (d := d) (fun _ => rfl) (by simp [annulsNext, branchRows])
  | be a d | bne a d | ble a d | bg a d | bl a d | bge a d | bleu a d | bgu a d | bcs a d | bcc a d
  | bneg a d | bpos a d | bvs a d | bvc a d =>
    exact behaves_of_branch (fun _ => rfl) (by simp [annulsNext, branchRows])
  | jmp => exact behaves_jmp
  | rett => exact behaves_rett
  | call d => exact behaves_call d
  | restore => exact behaves_restore
  | save => exact behaves_save
  | tn ro1 o =>
    exact behaves_of_trapIf (ro1 := ro1) (o := o) (cond := 0b0000#4) (fun _ => rfl) rfl
  | ta ro1 o =>
    exact behaves_of_trapIf (ro1 := ro1) (o := o) (cond := 0b1000#4) (fun _ => rfl) rfl
  | te ro1 o | tne ro1 o | tle ro1 o | tg ro1 o | tl ro1 o | tge ro1 o | tleu ro1 o | tgu ro1 o
  | tcs ro1 o | tcc ro1 o | tneg ro1 o | tpos ro1 o | tvs ro1 o | tvc ro1 o =>
    exact behaves_of_trapIf (fun _ => rfl) rfl
  | nop => exact behaves_of_advance (fun _ => rfl) rfl
  | rdY => exact behaves_rdOf .y
  | rdPsr => exact behaves_rdOf .psr
  | rdWim => exact behaves_rdOf .wim
  | rdTbr => exact behaves_rdOf .tbr
  | rdBase => exact behaves_rdOf .base
  | rdLimite => exact behaves_rdOf .limite
  | wrY => exact behaves_wrOf .y
  | wrPsr => exact behaves_wrOf .psr
  | wrWim => exact behaves_wrOf .wim
  | wrTbr => exact behaves_wrOf .tbr
  | wrBase => exact behaves_wrOf .base
  | wrLimite => exact behaves_wrOf .limite

/-! ## What actions and steps do -/

theorem apply_annul {s : State} (a : Action) :
    (a.apply s).annul = (a.annuls || s.annul) := by
  cases a with
  | move annuls target => cases annuls <;> rfl
  | stateWrite r v => cases r <;> rfl
  | _ => rfl

theorem takeTrap_annul_of_clear {s : State} (e : Exc) (h : s.annul = false) :
    (takeTrap e s).annul = false := by
  obtain ⟨-, ht⟩ | ⟨-, ht⟩ := takeTrap_cases e s
  · rw [ht, trapEntry_annul]
  · rw [ht, enterErrorMode_annul, h]

/-- Taking an exception is the same, but for the bit itself, whatever the annul bit was. -/
theorem takeTrap_withAnnul (e : Exc) (s : State) (b : Bool) :
    ∃ c, takeTrap e { s with annul := b } = { takeTrap e s with annul := c } := by
  obtain ⟨het, ht⟩ | ⟨het, ht⟩ := takeTrap_cases e s
  · exact ⟨false, by rw [ht, takeTrap_of_enabled (by exact het)]; rfl⟩
  · exact ⟨b, by rw [ht, takeTrap_of_disabled (by exact het)]; rfl⟩

/-- An action is the same, but for the bit itself, whatever the annul bit was. -/
theorem apply_withAnnul (a : Action) (s : State) (b : Bool) :
    ∃ c, a.apply { s with annul := b } = { a.apply s with annul := c } := by
  refine ⟨(a.annuls || b), ?_⟩
  cases a with
  | move annuls target => cases annuls <;> rfl
  | stateWrite r v => cases r <;> rfl
  | _ => rfl

/-- All that an instruction answers with, seen from one state: an exception taken, or an action. -/
theorem exec_cases {i : Instr} {s t : State} (h : exec i s = .next t) :
    (¬ annulsNext s.psr.icc i ∧ ∃ e, t = takeTrap e s) ∨
    ∃ a : Action, a.PermittedTo i s ∧ (a.annuls = true ↔ annulsNext s.psr.icc i) ∧ t = a.apply s := by
  cases exec_behaves i s with
  | raises e plain run =>
    exact .inl ⟨plain, e, Host.Outcome.next.inj (h.symm.trans (run s.annul))⟩
  | completes a permitted annuls run =>
    exact .inr ⟨a, permitted, annuls, Host.Outcome.next.inj (h.symm.trans (run s.annul))⟩

/-- All that a step can do: an annulled slot passes (R29), an exception of the fetch, the decoder or the
instruction is taken (R280), or the fetched instruction performs an action it is permitted. -/
theorem step_next_cases {s t : State} (h : step s = .next t) :
    t = s.annulledStep ∨ (s.errorMode = false ∧ s.annul = false ∧ ∃ e, t = takeTrap e s) ∨
    ∃ i a, Executes s i ∧ Action.PermittedTo i s a ∧ t = a.apply s := by
  obtain ⟨herr, ⟨-, ht⟩ | ⟨hann, e, -, ht⟩ | ⟨hann, i, hfetch, hexec⟩⟩ := step_cases h
  · exact .inl ht
  · exact .inr (.inl ⟨herr, hann, e, ht⟩)
  · obtain ⟨-, e, ht⟩ | ⟨a, permitted, -, ht⟩ := exec_cases hexec
    · exact .inr (.inl ⟨herr, hann, e, ht⟩)
    · exact .inr (.inr ⟨i, a, ⟨herr, hann, hfetch⟩, permitted, ht⟩)

/-- Settles O7: the second and the fourth sentence from what each instruction does (`exec_behaves`). -/
theorem annulBit : Obligations.AnnulBit := by
  refine ⟨fun s herr hann => ?_, fun s t i h hann => ?_, trapEntry_annul, fun s t i b h => ?_⟩
  · rw [step, if_neg (by simp [herr]), if_pos hann]
    rfl
  · obtain ⟨plain, e, rfl⟩ | ⟨a, -, annuls, rfl⟩ := exec_cases h
    · simp [takeTrap_annul_of_clear e hann, plain]
    · rw [apply_annul, hann, Bool.or_false, annuls]
  · cases exec_behaves i s with
    | raises e _ run =>
      obtain ⟨c, hc⟩ := takeTrap_withAnnul e s b
      have ht : t = takeTrap e s := Host.Outcome.next.inj (h.symm.trans (run s.annul))
      exact ⟨c, by rw [run, raise, hc, ht]⟩
    | completes a _ _ run =>
      obtain ⟨c, hc⟩ := apply_withAnnul a s b
      have ht : t = a.apply s := Host.Outcome.next.inj (h.symm.trans (run s.annul))
      exact ⟨c, by rw [run, hc, ht]⟩

end Sys2Proof.Machine
end

section
/-! PROOFS. Every step keeps the invariant, and reset meets it. -/

namespace Sys2Proof.Machine

/-! ## Field by field, what an action keeps -/

theorem apply_errorMode (a : Action) (s : State) : (a.apply s).errorMode = s.errorMode := by
  cases a with
  | stateWrite r v => cases r <;> rfl
  | _ => rfl

theorem apply_pc (a : Action) (s : State) : (a.apply s).pc = s.npc := by
  cases a with
  | stateWrite r v => cases r <;> rfl
  | _ => rfl

theorem apply_mem_wf (a : Action) {s : State} (h : Memory.wf s.mem = true) :
    Memory.wf (a.apply s).mem = true := by
  cases a with
  | store base bytes => exact memWriteBytes_wf bytes s.mem base h
  | stateWrite r v => cases r <;> exact h
  | _ => exact h

/-- Cell `G[0]` is no register's, so that no write of a register reaches it (R11, R13). -/
theorem writeGlobals_zero (g : Vector Word 8) (r : Reg) (v : Word) : (writeGlobals g r v)[0] = g[0] := by
  refine writeGlobals_other g r v 0 ?_
  by_cases h : r = 0#5
  · exact .inl h
  · exact .inr fun e => h (BitVec.eq_of_toNat_eq e.symm)

theorem apply_g0 (a : Action) (s : State) : (a.apply s).g[0] = s.g[0] := by
  cases a with
  | result rd v y f => exact writeGlobals_zero s.g rd v
  | link rd v target => exact writeGlobals_zero s.g rd v
  | window w rd v => exact writeGlobals_zero s.g rd v
  | stateWrite r v => cases r <;> rfl
  | _ => rfl

theorem apply_npc_aligned {i : Instr} {s : State} {a : Action} (permitted : a.PermittedTo i s)
    (h : Aligned4 s.npc) : Aligned4 (a.apply s).npc := by
  cases a with
  | move annuls target => exact permitted h
  | link rd v target => exact permitted h
  | trapReturn dir => exact permitted.1
  | stateWrite r v => cases r <;> exact aligned4_add_four h
  | _ => exact aligned4_add_four h

/-! ## The invariant -/

theorem apply_inv {i : Instr} {s : State} {a : Action} (permitted : a.PermittedTo i s) (h : Inv s)
    (running : s.errorMode = false) : Inv (a.apply s) where
  memory := apply_mem_wf a h.memory
  pc := by rw [apply_pc]; exact h.npc
  npc := apply_npc_aligned permitted h.npc
  g0 := (apply_g0 a s).trans h.g0
  annul := by simp [apply_errorMode, running]

theorem annulledStep_inv {s : State} (h : Inv s) : Inv s.annulledStep where
  memory := h.memory
  pc := h.npc
  npc := aligned4_add_four h.npc
  g0 := h.g0
  annul := fun _ => rfl

theorem takeTrap_inv (e : Exc) {s : State} (h : Inv s) (hannul : s.annul = false) :
    Inv (takeTrap e s) := by
  obtain ⟨-, ht⟩ | ⟨-, ht⟩ := takeTrap_cases e s
  · rw [ht]
    exact
      { memory := h.memory
        pc := aligned4_trapVector _ _
        npc := aligned4_add_four (aligned4_trapVector _ _)
        g0 := by simpa only [trapEntry_g] using h.g0
        annul := fun _ => rfl }
  · rw [ht]
    exact { h with annul := fun _ => hannul }

/-- Settles O11: an annulled slot, an exception and an action each keep the invariant. -/
theorem stepKeepsInvariant : Obligations.StepKeepsInvariant := by
  intro s t h hstep
  obtain rfl | ⟨-, hannul, e, rfl⟩ | ⟨i, a, ⟨running, -, -⟩, permitted, rfl⟩ := step_next_cases hstep
  · exact annulledStep_inv h
  · exact takeTrap_inv e h hannul
  · exact apply_inv permitted h running

/-! ## Reset -/

/-- Settles O9: each value is a field of `State.resetWith`. -/
theorem resetValues : Obligations.ResetValues :=
  ⟨fun _ _ => ⟨rfl, rfl, rfl, rfl, rfl, rfl, rfl, rfl⟩, rfl⟩

/-- Settles O10, field by field. -/
theorem resetMeetsInvariant : Obligations.ResetMeetsInvariant where
  memory := reset_memory_wf
  pc := rfl
  npc := rfl
  g0 := rfl
  annul := fun _ => rfl

end Sys2Proof.Machine
end

section
/-! PROOFS. Which cell each visible register is, and how the windows overlap. -/

namespace Sys2Proof.Machine

/-- A register reads as before where the only cell that differs is another's. -/
theorem CellsKept.reg_eq {c : BitVec 5} {r r' : Reg} {s t : State} (h : CellsKept c r' s t)
    (hcwp : t.psr.cwp = s.psr.cwp) (hglobal : r.toNat < 8 → r ≠ r')
    (hwindowed : 8 ≤ r.toNat → r'.toNat < 8 ∨ windowIndex s.psr.cwp r ≠ windowIndex c r') :
    t.reg r = s.reg r := by
  obtain ⟨hg, hw⟩ := h
  by_cases h0 : r = 0#5
  · rw [h0]
    rfl
  by_cases h8 : r.toNat < 8
  · rw [reg_global t r h0 h8, reg_global s r h0 h8]
    exact hg ⟨r.toNat, h8⟩ (.inr fun e => hglobal h8 (BitVec.eq_of_toNat_eq e))
  · have h8' : 8 ≤ r.toNat := Nat.le_of_not_lt h8
    simp only [reg_windowed t r h8', reg_windowed s r h8', hcwp]
    exact hw _ (hwindowed h8')

theorem setReg_cellsKept (s : State) (r : Reg) (v : Word) : CellsKept s.psr.cwp r s (s.setReg r v) :=
  (setReg_wroteReg s r v).2

theorem setReg_reg_same (s : State) {r : Reg} (v : Word) (h : r ≠ 0#5) : (s.setReg r v).reg r = v :=
  (setReg_wroteReg s r v).1.trans (if_neg h)

theorem setReg_reg_other (s : State) {r r' : Reg} (v : Word) (h : r' ≠ r) :
    (s.setReg r v).reg r' = s.reg r' := by
  refine (setReg_cellsKept s r v).reg_eq rfl (fun _ => h) fun h8' => ?_
  by_cases h8 : r.toNat < 8
  · exact .inl h8
  · exact .inr fun e => h (windowIndex_injective _ h8' (Nat.le_of_not_lt h8) e)

/-- Settles O12: both sides are `%r0`'s own cases of `State.reg` and `State.setReg`. -/
theorem registerZeroIsHardwired : Obligations.RegisterZeroIsHardwired := fun _ _ => ⟨rfl, rfl⟩

/-- Settles O13: the cells by `reg_global` and `reg_windowed`, the writes by `setReg_wroteReg`. -/
theorem visibleRegistersAreCells : Obligations.VisibleRegistersAreCells := by
  intro s r v
  refine ⟨?zero, fun h1 h7 => ?global, fun h8 => ?windowed, setReg_reg_same s v, setReg_cellsKept s r v,
    fun r' => setReg_reg_other s v⟩
  case zero =>
    rintro rfl
    exact registerZeroIsHardwired s v
  case global =>
    have h0 : r ≠ 0#5 := by rintro rfl; simp at h1
    have h8 : r.toNat < 8 := by omega
    rw [reg_global s r h0 h8]
    exact Vector.getElem?_eq_getElem h8
  case windowed =>
    rw [reg_windowed s r h8]
    exact Vector.getElem?_eq_getElem (windowIndex s.psr.cwp r).isLt

/-! ## Windows beside each other -/

theorem append_toNat (q : BitVec 2) (k : BitVec 3) : (q ++ k).toNat = 8 * q.toNat + k.toNat := by
  rw [BitVec.toNat_append, ← Nat.shiftLeft_add_eq_or_of_lt k.isLt, Nat.shiftLeft_eq, Nat.mul_comm]

/-- The cell of an out of window `w` is the cell of the same-numbered in of window `w - 1` (R14). -/
theorem windowIndex_out (w : BitVec 5) (k : BitVec 3) :
    windowIndex w (0b01#2 ++ k) = windowIndex (w - 1#5) (0b11#2 ++ k) := by
  apply Fin.ext
  have hw := BitVec.toNat_sub w 1#5
  simp only [windowIndex, append_toNat, BitVec.toNat_ofNat] at *
  have := w.isLt
  have := k.isLt
  omega

/-- A local of window `w` is no register's cell in the window below (R14). -/
theorem windowIndex_ne_local_below (w : BitVec 5) (k : BitVec 3) {r : Reg} (h8 : 8 ≤ r.toNat) :
    windowIndex (w - 1#5) r ≠ windowIndex w (0b10#2 ++ k) := by
  intro e
  have hv := congrArg Fin.val e
  have hw := BitVec.toNat_sub w 1#5
  simp only [windowIndex, append_toNat, BitVec.toNat_ofNat] at *
  have := w.isLt
  have := k.isLt
  have := r.isLt
  omega

/-- A local of window `w` is no register's cell in the window above (R14). -/
theorem windowIndex_ne_local_above (w : BitVec 5) (k : BitVec 3) {r : Reg} (h8 : 8 ≤ r.toNat) :
    windowIndex (w + 1#5) r ≠ windowIndex w (0b10#2 ++ k) := by
  intro e
  have hv := congrArg Fin.val e
  have hw := BitVec.toNat_add w 1#5
  simp only [windowIndex, append_toNat, BitVec.toNat_ofNat] at *
  have := w.isLt
  have := k.isLt
  have := r.isLt
  omega

/-- A windowed register written in window `w` is not seen in window `c` by a register of another cell. -/
theorem reg_after_write_in_window (s : State) (w c : BitVec 5) {r r' : Reg} (v : Word)
    (h8 : 8 ≤ r'.toNat) (hne : 8 ≤ r.toNat → windowIndex c r ≠ windowIndex w r') :
    (((s.setCwp w).setReg r' v).setCwp c).reg r = (s.setCwp c).reg r := by
  have kept : CellsKept w r' (s.setCwp c) (((s.setCwp w).setReg r' v).setCwp c) :=
    setReg_cellsKept (s.setCwp w) r' v
  exact kept.reg_eq rfl (by rintro h rfl; omega) fun h => .inr (hne h)

/-- Settles O14, from where the cells of a window lie in `W` (`windowIndex`). -/
theorem windowsOverlap : Obligations.WindowsOverlap := by
  intro s w k
  have windowed (q : BitVec 2) (hq : 1 ≤ q.toNat) : 8 ≤ (q ++ k).toNat := by rw [append_toNat]; omega
  refine ⟨?_, fun v r => ⟨?_, ?_⟩⟩
  · rw [reg_windowed _ _ (windowed _ (by decide)), reg_windowed _ _ (windowed _ (by decide))]
    simp only [setCwp_w, setCwp_psr, windowIndex_out]
  · exact reg_after_write_in_window s w _ v (windowed _ (by decide)) (windowIndex_ne_local_below w k)
  · exact reg_after_write_in_window s w _ v (windowed _ (by decide)) (windowIndex_ne_local_above w k)

end Sys2Proof.Machine
end

section
/-! PROOFS. What `wr %psr` and `wr %tbr` write and the next `rd` reads; which instructions can change CWP,
the condition codes and the state registers. -/

namespace Sys2Proof.Machine

/-! ## The packed images -/

/-- Reading `%psr` after writing `v` gives the bits of `v` that have a field (R23). -/
theorem psrImage_psrOfImage (v : Word) : psrImage (psrOfImage v) = v &&& 0x00F000FF#32 := by
  apply BitVec.eq_of_getLsbD_eq
  intro i hi
  simp only [psrImage, psrOfImage, BitVec.getLsbD_append, BitVec.getLsbD_and]
  interval_cases i <;> simp

/-- Reading `%tbr` after writing `v` gives TBA, the `tt` kept and four zeros (R26). -/
theorem tbrImage_extract (v : Word) (tt : BitVec 8) :
    tbrImage { tba := v.extractLsb' 12 20, tt := tt } =
      (v &&& 0xFFFFF000#32) ||| (tt.setWidth 32 <<< 4) := by
  apply BitVec.eq_of_getLsbD_eq
  intro i hi
  have mask : ∀ i < 32, (0xFFFFF000#32).getLsbD i = decide (12 ≤ i) := by decide
  simp only [tbrImage, BitVec.getLsbD_append, BitVec.getLsbD_or, BitVec.getLsbD_and, mask i hi,
    BitVec.getLsbD_shiftLeft, BitVec.getLsbD_setWidth, BitVec.getLsbD_extractLsb']
  by_cases h4 : i < 4
  · simp [h4, show i < 12 by omega]
  by_cases h12 : i < 12
  · simp [h4, h12, hi, show i - 4 < 8 by omega, show i - 4 < 32 by omega]
  · have index : 12 + (i - 4 - 8) = i := by omega
    have high : tt.getLsbD (i - 4) = false := BitVec.getLsbD_of_ge _ _ (by omega)
    simp [h4, hi, index, high, show ¬ i - 4 < 8 by omega, show i - 4 - 8 < 20 by omega,
      show 12 ≤ i by omega]

/-- Writing `v` to `rd` and advancing changes nothing else. -/
theorem setReg_advance_onlyWrites (rd : Reg) (v : Word) (s : State) :
    OnlyWrites rd v s (s.setReg rd v).advance :=
  ⟨(setReg_wroteReg s rd v).congr rfl rfl rfl, rfl, rfl, ⟨rfl, rfl, rfl, rfl, rfl, rfl⟩, fun _ => rfl,
    rfl, rfl⟩

/-- Settles O47: what is left after the fields is what the next `rd` reads, by the packed images. -/
theorem psrAndTbrWrites : Obligations.PsrAndTbrWrites := by
  intro ro1 o s rd v
  constructor
  · refine ⟨_, _, rfl, rfl, ⟨rfl, rfl⟩, rfl, ⟨rfl, rfl, rfl, rfl, rfl, rfl⟩, fun _ => rfl, ⟨rfl, rfl⟩,
      rfl, ?_⟩
    rw [← psrImage_psrOfImage]
    exact setReg_advance_onlyWrites rd _ _
  · refine ⟨_, _, rfl, rfl, ⟨rfl, rfl⟩, rfl, rfl, rfl, rfl, rfl, rfl, rfl, fun _ => rfl, ⟨rfl, rfl⟩,
      rfl, ?_⟩
    rw [← tbrImage_extract]
    exact setReg_advance_onlyWrites rd _ _

/-! ## What an exception changes -/

/-- Taking an exception is trap entry or error mode (R280, R290, R293). -/
theorem takeTrap_enteredTrap (e : Exc) (s : State) :
    EnteredTrap s (takeTrap e s) ∨ takeTrap e s = enterErrorMode s := by
  obtain ⟨het, ht⟩ | ⟨-, ht⟩ := takeTrap_cases e s
  · exact .inl ⟨het, e, ht⟩
  · exact .inr ht

/-- Trap entry and error mode alike keep Y, WIM, BASE, LIMITE and TBA. -/
theorem takeTrap_keeps_registers (e : Exc) (s : State) :
    (takeTrap e s).y = s.y ∧ (takeTrap e s).wim = s.wim ∧ (takeTrap e s).base = s.base ∧
    (takeTrap e s).limite = s.limite ∧ (takeTrap e s).tbr.tba = s.tbr.tba := by
  obtain ⟨-, ht⟩ | ⟨-, ht⟩ := takeTrap_cases e s <;> rw [ht] <;> exact ⟨rfl, rfl, rfl, rfl, rfl⟩

/-! ## Which instruction performs an action that changes a field -/

section
variable {i : Instr} {s : State} {a : Action}

theorem movesWindow_of_cwp_ne (permitted : a.PermittedTo i s)
    (h : (a.apply s).psr.cwp ≠ s.psr.cwp) : movesWindow i = true := by
  cases a with
  | trapReturn dir =>
    obtain ⟨-, ro1, o, rfl⟩ := permitted
    rfl
  | window w rd v =>
    obtain ⟨rd, ro1, o, rfl⟩ | ⟨rd, ro1, o, rfl⟩ := permitted <;> rfl
  | stateWrite r v =>
    obtain ⟨ro1, o, rfl, -⟩ := permitted
    cases r with
    | psr => rfl
    | _ => exact absurd rfl h
  | _ => exact absurd rfl h

theorem writesIcc_of_icc_ne (permitted : a.PermittedTo i s)
    (h : (a.apply s).psr.icc ≠ s.psr.icc) : writesIcc i = true := by
  cases a with
  | result rd v y f =>
    refine permitted.2 ?_
    rintro rfl
    exact h rfl
  | stateWrite r v =>
    obtain ⟨ro1, o, rfl, -⟩ := permitted
    cases r with
    | psr => rfl
    | _ => exact absurd rfl h
  | _ => exact absurd rfl h

theorem writesY_of_y_ne (permitted : a.PermittedTo i s) (h : (a.apply s).y ≠ s.y) :
    writesY i = true := by
  cases a with
  | result rd v y f =>
    refine permitted.1 ?_
    rintro rfl
    exact h rfl
  | stateWrite r v =>
    obtain ⟨ro1, o, rfl, -⟩ := permitted
    cases r with
    | y => rfl
    | _ => exact absurd rfl h
  | _ => exact absurd rfl h

/-- A write of a state register writes no other: WIM, BASE, LIMITE and TBA each differ only where theirs is
the register written, and `tt` never. -/
theorem writeStateReg_register_eq (s : State) (r : StateReg) (v : Word) :
    ((s.writeStateReg r v).wim ≠ s.wim → r = .wim) ∧ ((s.writeStateReg r v).base ≠ s.base → r = .base) ∧
    ((s.writeStateReg r v).limite ≠ s.limite → r = .limite) ∧
    ((s.writeStateReg r v).tbr.tba ≠ s.tbr.tba → r = .tbr) ∧
    (s.writeStateReg r v).tbr.tt = s.tbr.tt := by
  cases r <;> simp

/-- WIM, BASE, LIMITE and TBA each change only in their `wr`, and `tt` in no instruction (R25 to R28). -/
theorem wrOf_of_register_ne (permitted : a.PermittedTo i s) :
    ((a.apply s).wim ≠ s.wim → ∃ ro1 o, i = .wrWim ro1 o) ∧
    ((a.apply s).base ≠ s.base → ∃ ro1 o, i = .wrBase ro1 o) ∧
    ((a.apply s).limite ≠ s.limite → ∃ ro1 o, i = .wrLimite ro1 o) ∧
    ((a.apply s).tbr.tba ≠ s.tbr.tba → ∃ ro1 o, i = .wrTbr ro1 o) ∧
    (a.apply s).tbr.tt = s.tbr.tt := by
  cases a with
  | stateWrite r v =>
    obtain ⟨ro1, o, rfl, -⟩ := permitted
    obtain ⟨hwim, hbase, hlimite, htba, htt⟩ := writeStateReg_register_eq s r v
    refine ⟨fun h => ⟨ro1, o, ?_⟩, fun h => ⟨ro1, o, ?_⟩, fun h => ⟨ro1, o, ?_⟩, fun h => ⟨ro1, o, ?_⟩,
      htt⟩
    · rw [hwim h]; rfl
    · rw [hbase h]; rfl
    · rw [hlimite h]; rfl
    · rw [htba h]; rfl
  | _ => exact ⟨absurd rfl, absurd rfl, absurd rfl, absurd rfl, rfl⟩

end

/-! ## Which step changes a field -/

/-- Settles O48. Trap entry moves CWP; error mode and an annulled slot do not. -/
theorem onlyTheseMoveTheWindow : Obligations.OnlyTheseMoveTheWindow := by
  intro s t hstep hne
  obtain rfl | ⟨-, -, e, rfl⟩ | ⟨i, a, hexec, permitted, rfl⟩ := step_next_cases hstep
  · exact absurd rfl hne
  · obtain entered | halted := takeTrap_enteredTrap e s
    · exact .inl entered
    · rw [halted] at hne
      exact absurd rfl hne
  · exact .inr ⟨i, hexec, movesWindow_of_cwp_ne permitted hne⟩

/-- Settles O49. No exception changes a condition code (`takeTrap_icc`). -/
theorem onlyTheseWriteFlags : Obligations.OnlyTheseWriteFlags := by
  intro s t hstep hne
  obtain rfl | ⟨-, -, e, rfl⟩ | ⟨i, a, hexec, permitted, rfl⟩ := step_next_cases hstep
  · exact absurd rfl hne
  · exact absurd (takeTrap_icc e s) hne
  · exact ⟨i, hexec, writesIcc_of_icc_ne permitted hne⟩

/-- Settles O51. An exception changes `tt` alone, and only by trap entry. -/
theorem onlyTheseWriteStateRegisters : Obligations.OnlyTheseWriteStateRegisters := by
  intro s t hstep
  obtain rfl | ⟨-, -, e, rfl⟩ | ⟨i, a, hexec, permitted, rfl⟩ := step_next_cases hstep
  · exact ⟨absurd rfl, absurd rfl, absurd rfl, absurd rfl, absurd rfl, absurd rfl⟩
  · obtain ⟨hy, hwim, hbase, hlimite, htba⟩ := takeTrap_keeps_registers e s
    refine ⟨absurd hy, absurd hwim, absurd hbase, absurd hlimite, absurd htba, fun htt => ?_⟩
    obtain entered | halted := takeTrap_enteredTrap e s
    · exact entered
    · rw [halted] at htt
      exact absurd rfl htt
  · obtain ⟨hwim, hbase, hlimite, htba, htt⟩ := wrOf_of_register_ne permitted
    refine ⟨fun h => ⟨i, hexec, writesY_of_y_ne permitted h⟩, fun h => ?_, fun h => ?_, fun h => ?_,
      fun h => ?_, absurd htt⟩
    · obtain ⟨ro1, o, rfl⟩ := hwim h
      exact ⟨ro1, o, hexec⟩
    · obtain ⟨ro1, o, rfl⟩ := hbase h
      exact ⟨ro1, o, hexec⟩
    · obtain ⟨ro1, o, rfl⟩ := hlimite h
      exact ⟨ro1, o, hexec⟩
    · obtain ⟨ro1, o, rfl⟩ := htba h
      exact ⟨ro1, o, hexec⟩

end Sys2Proof.Machine
end

section
/-! PROOFS. What a write leaves in memory: its bytes are read back, most significant first. -/

namespace Sys2Proof.Machine

/-! ## Reading back what was written (R42) -/

/-- Each of the bytes written from `a` on is read back at its address. -/
theorem memRead8_memWriteBytes (bs : List Byte) (m : Memory) (a : Word) (hwf : Memory.wf m = true)
    (hlen : bs.length ≤ 2 ^ 32) (k : Nat) (hk : k < bs.length) :
    memRead8 (memWriteBytes m a bs) (a + BitVec.ofNat 32 k) = bs[k] := by
  induction bs generalizing m a k with
  | nil => simp at hk
  | cons b bs ih =>
    simp only [List.length_cons] at hlen hk
    cases k with
    | zero =>
      have outside : bs.length ≤ (a - (a + 1#32)).toNat := by bv_omega
      rw [BitVec.add_zero, memWriteBytes,
        memWriteBytes_other bs _ _ _ (by omega) outside]
      exact Memory.read_write_same m a.toNat b hwf
    | succ k =>
      have shift : a + BitVec.ofNat 32 (k + 1) = a + 1#32 + BitVec.ofNat 32 k := by
        rw [BitVec.add_assoc, Nat.add_comm k, BitVec.ofNat_add]
      rw [shift]
      exact ih _ _ (Memory.wf_write m a.toNat b a.isLt hwf) (by omega) k (by omega)

theorem memRead8_memWrite8 {m : Memory} (a : Word) (v : Byte) (hwf : Memory.wf m = true) :
    memRead8 (memWrite8 m a v) a = v := by
  have byte := memRead8_memWriteBytes [v] m a hwf (by simp) 0 (by simp)
  rwa [BitVec.add_zero] at byte

/-- The two bytes of a half word written, most significant first. -/
theorem memRead8_memWrite16 {m : Memory} (a : Word) (v : BitVec 16) (hwf : Memory.wf m = true) :
    memRead8 (memWrite16 .big m a v) a = v.extractLsb' 8 8 ∧
    memRead8 (memWrite16 .big m a v) (a + 1#32) = v.extractLsb' 0 8 := by
  have byte := memRead8_memWriteBytes (bytesOfHalf .big v) m a hwf (by simp [bytesOfHalf])
  have first := byte 0 (by simp [bytesOfHalf])
  rw [BitVec.add_zero] at first
  exact ⟨first, byte 1 (by simp [bytesOfHalf])⟩

/-- The four bytes of a word written, most significant first. -/
theorem memRead8_memWrite32 {m : Memory} (a : Word) (v : Word) (hwf : Memory.wf m = true) :
    memRead8 (memWrite32 .big m a v) a = v.extractLsb' 24 8 ∧
    memRead8 (memWrite32 .big m a v) (a + 1#32) = v.extractLsb' 16 8 ∧
    memRead8 (memWrite32 .big m a v) (a + 2#32) = v.extractLsb' 8 8 ∧
    memRead8 (memWrite32 .big m a v) (a + 3#32) = v.extractLsb' 0 8 := by
  have byte := memRead8_memWriteBytes (bytesOfWord .big v) m a hwf (by simp [bytesOfWord])
  have first := byte 0 (by simp [bytesOfWord])
  rw [BitVec.add_zero] at first
  exact ⟨first, byte 1 (by simp [bytesOfWord]), byte 2 (by simp [bytesOfWord]),
    byte 3 (by simp [bytesOfWord])⟩

/-- The bytes of a half word make it up again. -/
theorem halfOfBytes_extract (v : BitVec 16) :
    halfOfBytes .big (v.extractLsb' 8 8) (v.extractLsb' 0 8) = v := by
  simp only [halfOfBytes]
  rw [BitVec.extractLsb'_append_extractLsb'_eq_extractLsb' (by rfl)]
  simp

/-- The bytes of a word make it up again. -/
theorem wordOfBytes_extract (v : Word) :
    wordOfBytes .big (v.extractLsb' 24 8) (v.extractLsb' 16 8) (v.extractLsb' 8 8)
      (v.extractLsb' 0 8) = v := by
  simp only [wordOfBytes]
  rw [BitVec.extractLsb'_append_extractLsb'_eq_extractLsb' (by rfl),
    BitVec.extractLsb'_append_extractLsb'_eq_extractLsb' (by rfl),
    BitVec.extractLsb'_append_extractLsb'_eq_extractLsb' (by rfl)]
  simp

theorem memRead16_memWrite16 {m : Memory} (a : Word) (v : BitVec 16) (hwf : Memory.wf m = true) :
    memRead16 .big (memWrite16 .big m a v) a = v := by
  obtain ⟨h0, h1⟩ := memRead8_memWrite16 a v hwf
  rw [memRead16, h0, h1, halfOfBytes_extract]

theorem memRead32_memWrite32 {m : Memory} (a : Word) (v : Word) (hwf : Memory.wf m = true) :
    memRead32 .big (memWrite32 .big m a v) a = v := by
  obtain ⟨h0, h1, h2, h3⟩ := memRead8_memWrite32 a v hwf
  rw [memRead32, h0, h1, h2, h3, wordOfBytes_extract]

/-- Settles O15, width by width: the bytes written, the value they make up, the bytes beside them. -/
theorem bigEndianReadAfterWrite : Obligations.BigEndianReadAfterWrite := by
  intro m a hwf
  refine ⟨rfl, rfl, fun v => ?byte, fun v => ?half, fun v => ?word⟩
  case byte => exact ⟨memRead8_memWrite8 a v hwf, fun b => memWrite8_other m a b v⟩
  case half =>
    obtain ⟨h0, h1⟩ := memRead8_memWrite16 a v hwf
    exact ⟨h0, h1, memRead16_memWrite16 a v hwf, fun b => memWrite16_other .big m a b v⟩
  case word =>
    obtain ⟨h0, h1, h2, h3⟩ := memRead8_memWrite32 a v hwf
    exact ⟨h0, h1, h2, h3, memRead32_memWrite32 a v hwf, fun b => memWrite32_other .big m a b v⟩

end Sys2Proof.Machine
end

section
/-! PROOFS. What a step does with memory: the fetch, the loads and stores that complete, and which step
writes. -/

namespace Sys2Proof.Machine

/-! ## The fetch -/

/-- At the spec's settings the fetch gives what the word at PC decodes to (R41, R45). -/
theorem fetchInstr_of_decode {s : State} {i : Instr}
    (h : decode (memRead32 .big s.mem s.pc) = .ok i) : fetchInstr settings s = .ok i := by
  simp only [fetchInstr, fetchAddress_settings, settings_byteOrder, h]

theorem step_of_executes {s : State} {i : Instr} (h : Executes s i) : step s = exec i s := by
  obtain ⟨running, plain, fetched⟩ := h
  simp [step, running, plain, fetched]

/-- Settles O5: big-endian, the four bytes at PC are the word the fetch decodes. -/
theorem stepRunsDecodedInstruction : Obligations.StepRunsDecodedInstruction :=
  fun _ _ running plain decoded => step_of_executes ⟨running, plain, fetchInstr_of_decode decoded⟩

/-! ## The eight loads and stores by the two operations they share (R91 to R99) -/

section
variable (rd ro1 : Reg) (o : Operand2) (s : State)

theorem exec_ld : exec (.ld rd ro1 o) s =
    loadWith settings 4 isWordAligned (memRead32 .big) rd ro1 o s := rfl

theorem exec_lduh : exec (.lduh rd ro1 o) s =
    loadWith settings 2 isHalfAligned (fun m a => zext32 (memRead16 .big m a)) rd ro1 o s := rfl

theorem exec_ldsh : exec (.ldsh rd ro1 o) s =
    loadWith settings 2 isHalfAligned (fun m a => sext32 (memRead16 .big m a)) rd ro1 o s := rfl

theorem exec_ldub : exec (.ldub rd ro1 o) s =
    loadWith settings 1 anyAlignment (fun m a => zext32 (memRead8 m a)) rd ro1 o s := rfl

theorem exec_ldsb : exec (.ldsb rd ro1 o) s =
    loadWith settings 1 anyAlignment (fun m a => sext32 (memRead8 m a)) rd ro1 o s := rfl

theorem exec_st : exec (.st rd ro1 o) s =
    storeWith settings 4 isWordAligned (memWrite32 .big) rd ro1 o s := rfl

theorem exec_sth : exec (.sth rd ro1 o) s =
    storeWith settings 2 isHalfAligned (fun m a v => memWrite16 .big m a (v.extractLsb' 0 16))
      rd ro1 o s := rfl

theorem exec_stb : exec (.stb rd ro1 o) s =
    storeWith settings 1 anyAlignment (fun m a v => memWrite8 m a (v.extractLsb' 0 8))
      rd ro1 o s := rfl

end

/-! ## Loads and stores that complete -/

section
variable {i : Instr} {n : Nat} {al : Word → Bool} {rd ro1 : Reg} {o : Operand2} {s : State}

/-- A load at an aligned address writes `rd` and nothing else. -/
theorem load_completes {value : Memory → Word → Word}
    (hi : exec i s = loadWith settings n al value rd ro1 o s) (aligned : al (s.dir ro1 o) = true) :
    ∃ t, exec i s = .next t ∧ OnlyWrites rd (value s.mem (s.dir ro1 o)) s t :=
  ⟨_, hi.trans ((loadWith_settings ..).trans (if_pos aligned)), setReg_advance_onlyWrites rd _ s⟩

/-- Everything but memory after a store: the advance, and nothing else. -/
def OnlyMemoryAndAdvance (s t : State) : Prop :=
  AllCellsKept s t ∧ t.psr = s.psr ∧ t.y = s.y ∧ SpecialsKept s t ∧ Advanced s t

/-- A store at an aligned address writes memory and nothing else. -/
theorem store_completes {store : Memory → Word → Word → Memory}
    (hi : exec i s = storeWith settings n al store rd ro1 o s) (aligned : al (s.dir ro1 o) = true) :
    ∃ t, exec i s = .next t ∧ OnlyMemoryAndAdvance s t ∧
      t.mem = store s.mem (s.dir ro1 o) (s.reg rd) :=
  ⟨_, hi.trans ((storeWith_settings ..).trans (if_pos aligned)),
    ⟨⟨rfl, rfl⟩, rfl, rfl, ⟨rfl, rfl, rfl, rfl, rfl, rfl⟩, rfl, rfl⟩, rfl⟩

end

theorem isWordAligned_of_mod {a : Word} (h : a.toNat % 4 = 0) : isWordAligned a = true := by
  rw [isWordAligned_eq, decide_eq_true h]

theorem isHalfAligned_of_mod {a : Word} (h : a.toNat % 2 = 0) : isHalfAligned a = true := by
  rw [isHalfAligned_eq, decide_eq_true h]

/-- Settles O16: the value of each load is, by definition, its bytes most significant first, extended. -/
theorem loadsComplete : Obligations.LoadsComplete := by
  intro rd ro1 o s a b0 b1 b2 b3
  refine ⟨fun h4 => ?ld, fun h2 => ⟨?lduh, ?ldsh⟩, ?ldub, ?ldsb⟩
  case ld => exact load_completes (exec_ld rd ro1 o s) (isWordAligned_of_mod h4)
  case lduh => exact load_completes (exec_lduh rd ro1 o s) (isHalfAligned_of_mod h2)
  case ldsh => exact load_completes (exec_ldsh rd ro1 o s) (isHalfAligned_of_mod h2)
  case ldub => exact load_completes (exec_ldub rd ro1 o s) rfl
  case ldsb => exact load_completes (exec_ldsb rd ro1 o s) rfl

/-- The two low bytes of a word are those of its low half word. -/
theorem extractLsb'_low_half (v : Word) :
    (v.extractLsb' 0 16).extractLsb' 8 8 = v.extractLsb' 8 8 ∧
    (v.extractLsb' 0 16).extractLsb' 0 8 = v.extractLsb' 0 8 := by
  constructor <;> rw [BitVec.extractLsb'_extractLsb'_of_le (by decide)]

/-- Settles O17: the bytes of `x[rd]` as `memRead8_memWrite32` and its fellows read them back. -/
theorem storesComplete : Obligations.StoresComplete := by
  intro rd ro1 o s hwf a v rest
  refine ⟨fun h4 => ?st, fun h2 => ?sth, ?stb⟩
  case st =>
    obtain ⟨t, run, kept, hmem⟩ := store_completes (exec_st rd ro1 o s) (isWordAligned_of_mod h4)
    obtain ⟨h0, h1, h2, h3⟩ := memRead8_memWrite32 a v hwf
    refine ⟨t, run, kept, ?_⟩
    rw [MemoryKeptOutside, hmem]
    exact ⟨h0, h1, h2, h3, fun b => memWrite32_other .big s.mem a b v⟩
  case sth =>
    obtain ⟨t, run, kept, hmem⟩ := store_completes (exec_sth rd ro1 o s) (isHalfAligned_of_mod h2)
    obtain ⟨h0, h1⟩ := memRead8_memWrite16 a (v.extractLsb' 0 16) hwf
    obtain ⟨high, low⟩ := extractLsb'_low_half v
    refine ⟨t, run, kept, ?_⟩
    rw [MemoryKeptOutside, hmem]
    exact ⟨h0.trans high, h1.trans low, fun b => memWrite16_other .big s.mem a b _⟩
  case stb =>
    obtain ⟨t, run, kept, hmem⟩ := store_completes (exec_stb rd ro1 o s) rfl
    refine ⟨t, run, kept, ?_⟩
    rw [MemoryKeptOutside, hmem]
    exact ⟨memRead8_memWrite8 a _ hwf, fun b => memWrite8_other s.mem a b _⟩

/-! ## Which step changes memory -/

/-- An action that changes a byte is a store, and the byte is one it writes. -/
theorem store_of_memory_ne {a : Action} {s : State} {b : Word}
    (h : memRead8 (a.apply s).mem b ≠ memRead8 s.mem b) :
    ∃ base bytes, a = .store base bytes ∧ (bytes.length ≤ 2 ^ 32 → (b - base).toNat < bytes.length) := by
  cases a with
  | store base bytes =>
    exact ⟨base, bytes, rfl, fun hlen => Nat.lt_of_not_le fun outside =>
      h (memWriteBytes_other bytes s.mem base b hlen outside)⟩
  | stateWrite r v => exact absurd (by rw [Action.apply, advance_mem, writeStateReg_keeps_mem]) h
  | _ => exact absurd rfl h

/-- Settles O50. No exception writes memory (`takeTrap_mem`); an action that does is a store, and it is
permitted to `st`, `sth` and `stb` alone, of 4, 2 and 1 bytes. -/
theorem onlyStoresWriteMemory : Obligations.OnlyStoresWriteMemory := by
  intro s t b hstep hne
  obtain rfl | ⟨-, -, e, rfl⟩ | ⟨i, a, hexec, permitted, rfl⟩ := step_next_cases hstep
  · exact absurd rfl hne
  · exact absurd (by rw [takeTrap_mem]) hne
  · obtain ⟨base, bytes, rfl, inside⟩ := store_of_memory_ne hne
    obtain ⟨rd, ro1, o, rfl, ⟨rfl, hlen⟩ | ⟨rfl, hlen⟩ | ⟨rfl, hlen⟩⟩ := permitted <;>
      rw [hlen] at inside
    · exact ⟨rd, ro1, o, .inl ⟨hexec, inside (by decide)⟩⟩
    · exact ⟨rd, ro1, o, .inr (.inl ⟨hexec, inside (by decide)⟩)⟩
    · exact ⟨rd, ro1, o, .inr (.inr ⟨hexec, inside (by decide)⟩)⟩

end Sys2Proof.Machine
end

section
/-! PROOFS. The whole effect of trap entry, and the exception of a misaligned address. -/

namespace Sys2Proof.Machine

/-! ## Trap entry (R290, R291) -/

theorem trapVector_toNat (tba : BitVec 20) (tt : BitVec 8) :
    (trapVector tba tt).toNat = tba.toNat * 4096 + tt.toNat * 16 := by
  have low := Nat.shiftLeft_add_eq_or_of_lt tt.isLt tba.toNat
  simp only [trapVector, BitVec.toNat_append, BitVec.toNat_ofNat, Nat.zero_mod, Nat.or_zero]
  rw [← low, Nat.shiftLeft_eq, Nat.shiftLeft_eq]
  omega

/-- The visible registers after trap entry are those of the window entered, with PC and nPC saved. -/
theorem trapEntry_reg (tt : BitVec 8) (s : State) (r : Reg) : (trapEntry tt s).reg r =
    (({ s with psr := psrTrap s.psr }.setReg 17#5 s.pc).setReg 18#5 s.npc).reg r :=
  reg_congr _ _ r rfl rfl rfl

theorem trapEntry_reg_l1 (tt : BitVec 8) (s : State) : (trapEntry tt s).reg 17#5 = s.pc := by
  rw [trapEntry_reg, setReg_reg_other _ _ (by decide), setReg_reg_same _ _ (by decide)]

theorem trapEntry_reg_l2 (tt : BitVec 8) (s : State) : (trapEntry tt s).reg 18#5 = s.npc := by
  rw [trapEntry_reg, setReg_reg_same _ _ (by decide)]

/-- The whole effect of trap entry. -/
theorem trapEntry_trapEntered (tt : BitVec 8) (s : State) : TrapEntered tt s (trapEntry tt s) where
  et := rfl
  ps := rfl
  mode := rfl
  cwp := rfl
  icc := rfl
  l1 := trapEntry_reg_l1 tt s
  l2 := trapEntry_reg_l2 tt s
  globals := trapEntry_g s tt
  windows k h17 h18 := by
    rw [trapEntry_w]
    exact (writeWindowed_other _ _ _ _ k (.inr h18)).trans (writeWindowed_other _ _ _ _ k (.inr h17))
  tbr := rfl
  annul := rfl
  pc := trapVector_toNat s.tbr.tba tt
  npc := rfl
  y := rfl
  wim := rfl
  base := rfl
  limite := rfl
  errorMode := rfl
  memory _ := rfl

/-- An instruction that raises enters the trap with ET = 1 and error mode with ET = 0 (R280, R293). -/
theorem raise_effect (e : Exc) (s : State) :
    (s.psr.et = true → ∃ t, raise e s = .next t ∧ TrapEntered (trapType e) s t) ∧
    (s.psr.et = false → raise e s = .next { s with errorMode := true }) := by
  refine ⟨fun enabled => ⟨_, rfl, ?_⟩, fun disabled => ?_⟩
  · rw [takeTrap_of_enabled enabled]
    exact trapEntry_trapEntered _ s
  · rw [raise, takeTrap_of_disabled disabled]
    rfl

/-! ## Misaligned addresses -/

theorem not_isWordAligned_of_mod {a : Word} (h : a.toNat % 4 ≠ 0) : ¬ isWordAligned a = true := by
  simp [isWordAligned_eq, h]

theorem not_isHalfAligned_of_mod {a : Word} (h : a.toNat % 2 ≠ 0) : ¬ isHalfAligned a = true := by
  simp [isHalfAligned_eq, h]

section
variable {rd ro1 : Reg} {o : Operand2} {s : State} {i : Instr}

/-- What needs an address that is a multiple of 4 raises at any other (R43, R200, R203). -/
theorem exec_of_misaligned_word (h : (s.dir ro1 o).toNat % 4 ≠ 0)
    (hi : i ∈ [.ld rd ro1 o, .st rd ro1 o, .jmp rd ro1 o, .rett ro1 o]) :
    exec i s = raise (.memAddressNotAligned (s.dir ro1 o)) s := by
  have misaligned := not_isWordAligned_of_mod h
  simp only [List.mem_cons, List.not_mem_nil, or_false] at hi
  obtain rfl | rfl | rfl | rfl := hi
  · rw [exec_ld, loadWith_settings, if_neg misaligned]
  · rw [exec_st, storeWith_settings, if_neg misaligned]
  · exact if_neg misaligned
  · exact if_neg misaligned

/-- The half-word accesses raise at an odd address (R43). -/
theorem exec_of_misaligned_half (h : (s.dir ro1 o).toNat % 2 ≠ 0)
    (hi : i ∈ [.lduh rd ro1 o, .ldsh rd ro1 o, .sth rd ro1 o]) :
    exec i s = raise (.memAddressNotAligned (s.dir ro1 o)) s := by
  have misaligned := not_isHalfAligned_of_mod h
  simp only [List.mem_cons, List.not_mem_nil, or_false] at hi
  obtain rfl | rfl | rfl := hi
  · rw [exec_lduh, loadWith_settings, if_neg misaligned]
  · rw [exec_ldsh, loadWith_settings, if_neg misaligned]
  · rw [exec_sth, storeWith_settings, if_neg misaligned]

end

/-- Settles O18: each of the seven instructions raises, and raising is all it does. -/
theorem misalignedAddressTraps : Obligations.MisalignedAddressTraps := by
  intro rd ro1 o s i a h
  have raised : exec i s = raise (.memAddressNotAligned a) s := by
    obtain ⟨h4, hi⟩ | ⟨h2, hi⟩ := h
    · exact exec_of_misaligned_word h4 hi
    · exact exec_of_misaligned_half h2 hi
  rw [raised]
  exact raise_effect _ s

end Sys2Proof.Machine
end

section
/-! PROOFS. A partial `MEM`: the exceptions of an absent byte, on data and on the fetch (R48, R288). -/

namespace Sys2Proof.Machine

/-! ## Loads and stores -/

/-- An access of `n` bytes at `a` answers `r` in place of the instruction `i`: where a byte is absent an
exception, the misalignment first; where every byte is there, in big-endian order, what `i` does. -/
def FaultsWhereAbsent (p : Params) (a : Word) (s : State) (n : Nat) (r : Result) (i : Instr) : Prop :=
  ((∃ k < n, p.present (a + BitVec.ofNat 32 k) = false) →
    r = .next (takeTrap (if a.toNat % n = 0 then .accessFaultData else .memAddressNotAligned a) s)) ∧
  ((∀ k < n, p.present (a + BitVec.ofNat 32 k) = true) → p.byteOrder = .big → r = exec i s)

theorem presentBytes_false_iff (p : Params) (a : Word) (n : Nat) :
    presentBytes p a n = false ↔ ∃ k < n, p.present (a + BitVec.ofNat 32 k) = false := by
  simp [← Bool.not_eq_true, presentBytes_iff]

section
variable {p : Params} {s : State} {n : Nat} {a : Word} (identity : p.translate = settings.translate)
include identity

/-- Without translation an access reaches its own address, where its bytes are there (R49). -/
theorem reach_of_identity (kind : AccessKind) :
    reach p s a n kind = if presentBytes p a n then some a else none := by
  simp only [reach, identity, settings_translate]

theorem reach_of_absent (kind : AccessKind)
    (absent : ∃ k < n, p.present (a + BitVec.ofNat 32 k) = false) : reach p s a n kind = none := by
  rw [reach_of_identity identity, (presentBytes_false_iff p a n).mpr absent]
  rfl

theorem reach_of_present (kind : AccessKind)
    (present : ∀ k < n, p.present (a + BitVec.ofNat 32 k) = true) : reach p s a n kind = some a := by
  rw [reach_of_identity identity, if_pos ((presentBytes_iff p a n).mpr present)]

/-- The alignment is checked before the presence (R289). -/
theorem dataAddress_of_absent (kind : AccessKind) (aligned : Bool)
    (absent : ∃ k < n, p.present (a + BitVec.ofNat 32 k) = false) :
    dataAddress p s a n kind aligned =
      .error (if aligned then .accessFaultData else .memAddressNotAligned a) := by
  cases aligned
  · rfl
  · simp [dataAddress, reach_of_absent identity kind absent]

/-- Where its bytes are there a data access is as at the spec's settings. -/
theorem dataAddress_of_present (kind : AccessKind) (aligned : Bool)
    (present : ∀ k < n, p.present (a + BitVec.ofNat 32 k) = true) :
    dataAddress p s a n kind aligned = dataAddress settings s a n kind aligned := by
  simp only [dataAddress, reach_of_present identity kind present, reach_settings]

variable {al : Word → Bool} {rd ro1 : Reg} {o : Operand2} {i : Instr}

theorem load_faultsWhereAbsent (value : ByteOrder → Memory → Word → Word)
    (hal : ∀ a, al a = decide (a.toNat % n = 0))
    (hi : exec i s = loadWith settings n al (value .big) rd ro1 o s) :
    FaultsWhereAbsent p (s.dir ro1 o) s n (loadWith p n al (value p.byteOrder) rd ro1 o s) i := by
  refine ⟨fun absent => ?_, fun present big => ?_⟩
  · simp [loadWith, dataAddress_of_absent identity _ _ absent, raise, hal]
  · rw [hi, big, loadWith, dataAddress_of_present identity _ _ present]
    rfl

theorem store_faultsWhereAbsent (store : ByteOrder → Memory → Word → Word → Memory)
    (hal : ∀ a, al a = decide (a.toNat % n = 0))
    (hi : exec i s = storeWith settings n al (store .big) rd ro1 o s) :
    FaultsWhereAbsent p (s.dir ro1 o) s n (storeWith p n al (store p.byteOrder) rd ro1 o s) i := by
  refine ⟨fun absent => ?_, fun present big => ?_⟩
  · simp [storeWith, dataAddress_of_absent identity _ _ absent, raise, hal]
  · rw [hi, big, storeWith, dataAddress_of_present identity _ _ present]
    rfl

end

/-- Every address is aligned for a byte. -/
theorem anyAlignment_eq (a : Word) : anyAlignment a = decide (a.toNat % 1 = 0) := by
  simp [anyAlignment, Nat.mod_one]

/-- Each of the eight loads and stores, by its width and the operation it is. -/
theorem accessRows_faultsWhereAbsent {p : Params} (identity : p.translate = settings.translate)
    (rd ro1 : Reg) (o : Operand2) (s : State) :
    ∀ row ∈ accessRows p rd ro1 o s, FaultsWhereAbsent p (s.dir ro1 o) s row.1 row.2.1 row.2.2 := by
  simp only [accessRows, List.forall_mem_cons]
  refine ⟨?ld, ?st, ?lduh, ?ldsh, ?sth, ?ldub, ?ldsb, ?stb, List.forall_mem_nil _⟩
  case ld =>
    exact load_faultsWhereAbsent identity memRead32 isWordAligned_eq (exec_ld rd ro1 o s)
  case st =>
    exact store_faultsWhereAbsent identity memWrite32 isWordAligned_eq (exec_st rd ro1 o s)
  case lduh =>
    exact load_faultsWhereAbsent identity (fun b m a => zext32 (memRead16 b m a)) isHalfAligned_eq
      (exec_lduh rd ro1 o s)
  case ldsh =>
    exact load_faultsWhereAbsent identity (fun b m a => sext32 (memRead16 b m a)) isHalfAligned_eq
      (exec_ldsh rd ro1 o s)
  case sth =>
    exact store_faultsWhereAbsent identity (fun b m a v => memWrite16 b m a (v.extractLsb' 0 16))
      isHalfAligned_eq (exec_sth rd ro1 o s)
  case ldub =>
    exact load_faultsWhereAbsent identity (fun _ m a => zext32 (memRead8 m a)) anyAlignment_eq
      (exec_ldub rd ro1 o s)
  case ldsb =>
    exact load_faultsWhereAbsent identity (fun _ m a => sext32 (memRead8 m a)) anyAlignment_eq
      (exec_ldsb rd ro1 o s)
  case stb =>
    exact store_faultsWhereAbsent identity (fun _ m a v => memWrite8 m a (v.extractLsb' 0 8))
      anyAlignment_eq (exec_stb rd ro1 o s)

/-! ## The fetch -/

theorem fetchInstr_of_unreached {p : Params} {s : State} (h : fetchAddress p s = none) :
    fetchInstr p s = .error .accessFaultFetch := by
  rw [fetchInstr, h]

/-- A fetch reads at PC where it reaches PC, whatever else the parameters say. -/
theorem fetchInstr_of_reached {p : Params} {s : State} (h : fetchAddress p s = some s.pc)
    (big : p.byteOrder = .big) : fetchInstr p s = fetchInstr settings s := by
  rw [fetchInstr, fetchInstr, h, big, fetchAddress_settings, settings_byteOrder]

/-- A word that is no instruction raises `IllegalInstruction`, which is no access fault. -/
theorem fetchInstr_settings_ne_accessFault (s : State) :
    fetchInstr settings s ≠ .error .accessFaultFetch := by
  simp only [fetchInstr, fetchAddress_settings]
  split <;> simp

theorem dataAddress_settings_ne_accessFault (s : State) (dir : Word) (n : Nat) (kind : AccessKind)
    (aligned : Bool) : dataAddress settings s dir n kind aligned ≠ .error .accessFaultData := by
  cases aligned <;> simp

/-- Settles O56: the eight rows by `accessRows_faultsWhereAbsent`, the fetch by what it reaches. -/
theorem absentMemoryParameter : Obligations.AbsentMemoryParameter := by
  refine ⟨rfl, rfl,
    fun p s rd ro1 o identity => ⟨accessRows_faultsWhereAbsent identity rd ro1 o s, ?_, ?_⟩,
    fetchInstr_settings_ne_accessFault, dataAddress_settings_ne_accessFault⟩
  · exact fun absent => fetchInstr_of_unreached (reach_of_absent identity .fetch absent)
  · exact fun present => fetchInstr_of_reached (reach_of_present identity .fetch present)

end Sys2Proof.Machine
end

section
/-! PROOFS. The decoder as a choice of format by the operation codes, then the reading of the word in that
format. -/

namespace Sys2Proof

/-! ## Formats -/

/-- How the rest of a word is read once its operation codes are known (R61 to R70). -/
inductive Format where
  | format3 (k : Reg → Reg → Operand2 → Instr)
  | shift (k : Reg → Reg → ShiftCount → Instr)
  | rdZero (k : Reg → Operand2 → Instr)
  | read (k : Reg → Instr)
  | readSelected
  | writeSelected
  | trap
  | sethi
  | branch
  | call
  | unassigned (r : Reject)

/-- The format of an `op3` under `op` = `10` (R77). -/
def op10Format : BitVec 6 → Format
  | 0b000000#6 => .format3 .add
  | 0b000001#6 => .format3 .and
  | 0b000010#6 => .format3 .or
  | 0b000011#6 => .format3 .xor
  | 0b000100#6 => .format3 .sub
  | 0b000101#6 => .format3 .andn
  | 0b000110#6 => .format3 .orn
  | 0b000111#6 => .format3 .xnor
  | 0b001010#6 => .format3 .umul
  | 0b001011#6 => .format3 .smul
  | 0b001110#6 => .format3 .udiv
  | 0b001111#6 => .format3 .sdiv
  | 0b010000#6 => .format3 .addcc
  | 0b010001#6 => .format3 .andcc
  | 0b010010#6 => .format3 .orcc
  | 0b010011#6 => .format3 .xorcc
  | 0b010100#6 => .format3 .subcc
  | 0b010101#6 => .format3 .andncc
  | 0b010110#6 => .format3 .orncc
  | 0b010111#6 => .format3 .xnorcc
  | 0b011010#6 => .format3 .umulcc
  | 0b011011#6 => .format3 .smulcc
  | 0b011110#6 => .format3 .udivcc
  | 0b011111#6 => .format3 .sdivcc
  | 0b100101#6 => .shift .sll
  | 0b100110#6 => .shift .srl
  | 0b100111#6 => .shift .sra
  | 0b101000#6 => .readSelected
  | 0b101001#6 => .read .rdPsr
  | 0b101010#6 => .read .rdWim
  | 0b101011#6 => .read .rdTbr
  | 0b110000#6 => .writeSelected
  | 0b110001#6 => .rdZero .wrPsr
  | 0b110010#6 => .rdZero .wrWim
  | 0b110011#6 => .rdZero .wrTbr
  | 0b111000#6 => .format3 .jmp
  | 0b111001#6 => .rdZero .rett
  | 0b111010#6 => .trap
  | 0b111100#6 => .format3 .save
  | 0b111101#6 => .format3 .restore
  | _ => .unassigned .unassignedOp3

/-- The format of an `op3` under `op` = `11` (R71). -/
def op11Format : BitVec 6 → Format
  | 0b000000#6 => .format3 .ld
  | 0b000001#6 => .format3 .ldub
  | 0b000010#6 => .format3 .lduh
  | 0b000100#6 => .format3 .st
  | 0b000101#6 => .format3 .stb
  | 0b000110#6 => .format3 .sth
  | 0b001001#6 => .format3 .ldsb
  | 0b001010#6 => .format3 .ldsh
  | _ => .unassigned .unassignedOp3

/-- The format of an `op2` under `op` = `00` (R75). -/
def op00Format : BitVec 3 → Format
  | 0b100#3 => .sethi
  | 0b010#3 => .branch
  | _ => .unassigned .unassignedOp2

/-- The format the operation codes select (R60). -/
def formatOf (op : BitVec 2) (op2 : BitVec 3) (op3 : BitVec 6) : Format :=
  match op with
  | 0b00#2 => op00Format op2
  | 0b01#2 => .call
  | 0b10#2 => op10Format op3
  | _ => op11Format op3

/-- The reading of a word in a format. -/
def Format.decode (w : Word) : Format → Decoded
  | .format3 k => decodeFormat3 k w
  | .shift k => decodeShift k w
  | .rdZero k => decodeRdZero k w
  | .read k => decodeRead k w
  | .readSelected => decodeReadSelected w
  | .writeSelected => decodeWriteSelected w
  | .trap => decodeTrap w
  | .sethi =>
    if fieldRd w = 0#5 ∧ fieldImm22 w = 0#22 then .ok .nop else .ok (.sethi (fieldRd w) (fieldImm22 w))
  | .branch => .ok (branchOfCond (fieldCond w) (fieldA w == 1#1) (fieldImm22 w))
  | .call => .ok (.call (fieldDisp30 w))
  | .unassigned r => .error r

theorem decodeOp10_eq (w : Word) : decodeOp10 w = (op10Format (fieldOp3 w)).decode w := by
  unfold decodeOp10
  split <;> simp only [op10Format, *] <;> rfl

theorem decodeOp11_eq (w : Word) : decodeOp11 w = (op11Format (fieldOp3 w)).decode w := by
  unfold decodeOp11
  split <;> simp only [op11Format, *] <;> rfl

theorem decodeOp00_eq (w : Word) : decodeOp00 w = (op00Format (fieldOp2 w)).decode w := by
  unfold decodeOp00
  split <;> simp only [op00Format, *] <;> rfl

/-- The decoder reads a word in the format of its operation codes. -/
theorem decode_eq (w : Word) :
    decode w = (formatOf (fieldOp w) (fieldOp2 w) (fieldOp3 w)).decode w := by
  unfold decode
  split <;> simp only [formatOf, *]
  · exact decodeOp00_eq w
  · rfl
  · exact decodeOp10_eq w
  · exact decodeOp11_eq w

end Sys2Proof
end

section
/-! PROOFS. What the decoder reads the encoder writes back, in the same format. -/

namespace Sys2Proof

/-! ## A word is made of its fields -/

theorem extract_append_extract (w : Word) (start a b : Nat) :
    w.extractLsb' (start + b) a ++ w.extractLsb' start b = w.extractLsb' start (a + b) :=
  BitVec.extractLsb'_append_extractLsb'_eq_extractLsb' rfl

theorem encodeFormat3_fields (w : Word) :
    encodeFormat3 (fieldOp w) (fieldRd w) (fieldOp3 w) (fieldRo1 w) (fieldCero14 w) = w := by
  have rd := extract_append_extract w 25 2 5
  have op3 := extract_append_extract w 19 7 6
  have ro1 := extract_append_extract w 14 13 5
  have low := extract_append_extract w 0 18 14
  simp only [Nat.reduceAdd] at rd op3 ro1 low
  rw [encodeFormat3, fieldOp, fieldRd, fieldOp3, fieldRo1, fieldCero14, rd, op3, ro1, low]
  exact BitVec.extractLsb'_eq_self

theorem encodeFormat2_fields {w : Word} (h : fieldOp w = 0b00#2) :
    encodeFormat2 (fieldRd w) (fieldOp2 w) (fieldImm22 w) = w := by
  have rd := extract_append_extract w 25 2 5
  have op2 := extract_append_extract w 22 7 3
  have imm := extract_append_extract w 0 10 22
  simp only [Nat.reduceAdd] at rd op2 imm
  rw [encodeFormat2, ← h, fieldOp, fieldRd, fieldOp2, fieldImm22, rd, op2, imm]
  exact BitVec.extractLsb'_eq_self

theorem encode_call_fields {w : Word} (h : fieldOp w = 0b01#2) : encode (.call (fieldDisp30 w)) = w := by
  rw [encode, ← h]
  exact (extract_append_extract w 0 2 30).trans BitVec.extractLsb'_eq_self

theorem fieldRd_eq_append (w : Word) : fieldRd w = fieldA w ++ fieldCond w :=
  (extract_append_extract w 25 1 4).symm

theorem fieldCero14_eq_imm (w : Word) : fieldCero14 w = fieldI w ++ fieldSimm13 w :=
  (extract_append_extract w 0 1 13).symm

theorem fieldCero14_eq_reg (w : Word) : fieldCero14 w = fieldI w ++ fieldCero8 w ++ fieldRo2 w :=
  (extract_append_extract w 0 9 5).symm.trans
    (congrArg (· ++ fieldRo2 w) (extract_append_extract w 5 1 8).symm)

theorem fieldI_eq_zero {w : Word} (h : fieldI w ≠ 1#1) : fieldI w = 0#1 :=
  (BitVec.eq_zero_or_eq_one _).resolve_right h

/-! ## Operands written back -/

theorem map_eq_ok_iff {α β : Type} {f : α → β} {x : Except Reject α} {b : β} :
    x.map f = .ok b ↔ ∃ a, x = .ok a ∧ f a = b := by
  cases x <;> simp [Except.map]

theorem guarded_eq_ok_iff {α : Type} {c : Prop} [Decidable c] {x : Except Reject α} {r : Reject}
    {a : α} : (if c then x else .error r) = .ok a ↔ c ∧ x = .ok a := by
  split <;> simp [*]

theorem ofBool_beq_one (b : BitVec 1) : BitVec.ofBool (b == 1#1) = b := by
  revert b; decide

theorem encodeOperand2_of_decode {w : Word} {o : Operand2} (h : decodeOperand2 w = .ok o) :
    encodeOperand2 o = fieldCero14 w := by
  unfold decodeOperand2 at h
  split at h
  case isTrue imm =>
    cases h
    rw [fieldCero14_eq_imm, imm, encodeOperand2]
  case isFalse reg =>
    split at h
    case isTrue cero =>
      cases h
      rw [fieldCero14_eq_reg, fieldI_eq_zero reg, cero, encodeOperand2]
    case isFalse => cases h

/-- Bits 12:5 of an immediate count come back zero (R83). -/
theorem encodeCount_of_decode {w : Word} {c : ShiftCount} (h : decodeCount w = .ok c) :
    encodeCount c = if fieldI w = 1#1 then fieldCero14 w &&& 0x201F#14 else fieldCero14 w := by
  unfold decodeCount at h
  split at h
  case isTrue imm =>
    cases h
    rw [if_pos imm, fieldCero14_eq_reg, imm, show 0x201F#14 = 1#1 ++ 0#8 ++ 0x1F#5 from rfl,
      BitVec.and_append, BitVec.and_append, BitVec.and_zero, encodeCount]
    exact congrArg _ BitVec.and_allOnes.symm
  case isFalse reg =>
    split at h
    case isTrue cero =>
      cases h
      rw [if_neg reg, fieldCero14_eq_reg, fieldI_eq_zero reg, cero, encodeCount]
    case isFalse => cases h

/-! ## The selected state registers -/

section
variable {w : Word} {i : Instr}

/-- `ro1` selects the register read (R253, R260). -/
theorem decodeReadSelected_eq_ok_iff : decodeReadSelected w = .ok i ↔ fieldCero14 w = 0#14 ∧
    ((fieldRo1 w = 0#5 ∧ .rdY (fieldRd w) = i) ∨ (fieldRo1 w = 1#5 ∧ .rdBase (fieldRd w) = i) ∨
     (fieldRo1 w = 2#5 ∧ .rdLimite (fieldRd w) = i)) := by
  unfold decodeReadSelected
  rw [guarded_eq_ok_iff]
  split <;> simp_all

/-- `rd` selects the register written (R78, R268). -/
theorem decodeWriteSelected_eq_ok_iff : decodeWriteSelected w = .ok i ↔
    ∃ o, decodeOperand2 w = .ok o ∧
      ((fieldRd w = 0#5 ∧ .wrY (fieldRo1 w) o = i) ∨ (fieldRd w = 1#5 ∧ .wrBase (fieldRo1 w) o = i) ∨
       (fieldRd w = 2#5 ∧ .wrLimite (fieldRo1 w) o = i)) := by
  unfold decodeWriteSelected
  split <;> simp_all [map_eq_ok_iff]

end

/-! ## What the encoder writes for the instructions of a format -/

theorem encode_trapOfCond (cond : BitVec 4) (ro1 : Reg) (o : Operand2) :
    WellFormed (trapOfCond cond ro1 o) = true ∧
      encode (trapOfCond cond ro1 o) = encodeTrap cond ro1 o := by
  unfold trapOfCond
  split
  case h_16 =>
    obtain rfl : cond = 0b1111#4 := by decide +revert
    exact ⟨rfl, rfl⟩
  all_goals exact ⟨rfl, rfl⟩

theorem encode_branchOfCond (cond : BitVec 4) (a : Bool) (disp22 : BitVec 22) :
    WellFormed (branchOfCond cond a disp22) = true ∧
      encode (branchOfCond cond a disp22) = encodeBranch cond a disp22 := by
  unfold branchOfCond
  split
  case h_16 =>
    obtain rfl : cond = 0b1111#4 := by decide +revert
    exact ⟨rfl, rfl⟩
  all_goals exact ⟨rfl, rfl⟩

/-- The instructions of a format are well-formed and written with its operation codes. -/
def Format.Encodes (op : BitVec 2) (op2 : BitVec 3) (op3 : BitVec 6) : Format → Prop
  | .format3 k => ∀ rd ro1 o, WellFormed (k rd ro1 o) = true ∧
      encode (k rd ro1 o) = encodeFormat3 op rd op3 ro1 (encodeOperand2 o)
  | .shift k => ∀ rd ro1 o, WellFormed (k rd ro1 o) = true ∧
      encode (k rd ro1 o) = encodeFormat3 op rd op3 ro1 (encodeCount o)
  | .rdZero k => ∀ ro1 o, WellFormed (k ro1 o) = true ∧
      encode (k ro1 o) = encodeFormat3 op 0#5 op3 ro1 (encodeOperand2 o)
  | .read k => ∀ rd, WellFormed (k rd) = true ∧ encode (k rd) = encodeFormat3 op rd op3 0#5 0#14
  | .readSelected => op = 0b10#2 ∧ op3 = 0b101000#6
  | .writeSelected => op = 0b10#2 ∧ op3 = 0b110000#6
  | .trap => op = 0b10#2 ∧ op3 = 0b111010#6
  | .sethi => op = 0b00#2 ∧ op2 = 0b100#3
  | .branch => op = 0b00#2 ∧ op2 = 0b010#3
  | .call => op = 0b01#2
  | .unassigned _ => True

theorem op00Format_encodes (op2 : BitVec 3) (op3 : BitVec 6) :
    (op00Format op2).Encodes 0b00#2 op2 op3 := by
  unfold op00Format
  split <;> simp [Format.Encodes]

theorem op10Format_encodes (op2 : BitVec 3) (op3 : BitVec 6) :
    (op10Format op3).Encodes 0b10#2 op2 op3 := by
  unfold op10Format
  split <;> simp [Format.Encodes, WellFormed, encode]

theorem op11Format_encodes (op2 : BitVec 3) (op3 : BitVec 6) :
    (op11Format op3).Encodes 0b11#2 op2 op3 := by
  unfold op11Format
  split <;> simp [Format.Encodes, WellFormed, encode]

theorem formatOf_encodes (op : BitVec 2) (op2 : BitVec 3) (op3 : BitVec 6) :
    (formatOf op op2 op3).Encodes op op2 op3 := by
  unfold formatOf
  split
  case h_1 => exact op00Format_encodes op2 op3
  case h_2 => rfl
  case h_3 => exact op10Format_encodes op2 op3
  case h_4 =>
    obtain rfl : op = 0b11#2 := by decide +revert
    exact op11Format_encodes op2 op3

/-! ## Words written back -/

/-- The formats whose immediate form has ignored bits (R83). -/
def Format.isShift : Format → Bool
  | .shift _ => true
  | _ => false

theorem formatOf_isShift (op : BitVec 2) (op2 : BitVec 3) (op3 : BitVec 6) :
    (formatOf op op2 op3).isShift = true ↔
      op = 0b10#2 ∧ (op3 = 0x25#6 ∨ op3 = 0x26#6 ∨ op3 = 0x27#6) := by
  revert op op2 op3; decide

/-- The word that comes back from `w` read in a format (R83). -/
def Format.rewritten (w : Word) (f : Format) : Word :=
  if f.isShift = true ∧ fieldI w = 1#1 then w &&& 0xFFFFE01F#32 else w

/-- A shift with bits 12:5 cleared under an immediate, as the encoder writes it (R83). -/
theorem encodeFormat3_count (w : Word) (k : Reg → Reg → ShiftCount → Instr) :
    encodeFormat3 (fieldOp w) (fieldRd w) (fieldOp3 w) (fieldRo1 w)
      (if fieldI w = 1#1 then fieldCero14 w &&& 0x201F#14 else fieldCero14 w) =
    (Format.shift k).rewritten w := by
  by_cases imm : fieldI w = 1#1
  case neg => simp only [Format.rewritten, imm, and_false, if_false, encodeFormat3_fields]
  case pos =>
    have kept := encodeFormat3_and (fieldOp w) (fieldRd w) (fieldOp3 w) (fieldRo1 w) (fieldCero14 w)
      0xFFFFE01F#32
    rw [encodeFormat3_fields] at kept
    simp only [Format.rewritten, Format.isShift, imm, and_self, if_true, kept]
    congr 1
    all_goals exact BitVec.and_allOnes.symm

section
variable {w : Word} {i : Instr}

/-- What a word decodes to in a format is well-formed, and its word is the word it came from. -/
theorem written_back {f : Format} (enc : f.Encodes (fieldOp w) (fieldOp2 w) (fieldOp3 w))
    (h : f.decode w = .ok i) : WellFormed i = true ∧ encode i = f.rewritten w := by
  cases f with
  | format3 k =>
    obtain ⟨o, read, rfl⟩ := map_eq_ok_iff.mp h
    obtain ⟨wf, written⟩ := enc (fieldRd w) (fieldRo1 w) o
    exact ⟨wf, by rw [written, encodeOperand2_of_decode read, encodeFormat3_fields]; rfl⟩
  | shift k =>
    obtain ⟨c, read, rfl⟩ := map_eq_ok_iff.mp h
    obtain ⟨wf, written⟩ := enc (fieldRd w) (fieldRo1 w) c
    exact ⟨wf, by rw [written, encodeCount_of_decode read, encodeFormat3_count]⟩
  | rdZero k =>
    obtain ⟨zero, h⟩ := guarded_eq_ok_iff.mp h
    obtain ⟨o, read, rfl⟩ := map_eq_ok_iff.mp h
    obtain ⟨wf, written⟩ := enc (fieldRo1 w) o
    exact ⟨wf, by rw [written, encodeOperand2_of_decode read, ← zero, encodeFormat3_fields]; rfl⟩
  | read k =>
    obtain ⟨zero, h⟩ := guarded_eq_ok_iff.mp h
    obtain ⟨cero, h⟩ := guarded_eq_ok_iff.mp h
    obtain rfl := Except.ok.inj h
    obtain ⟨wf, written⟩ := enc (fieldRd w)
    exact ⟨wf, by rw [written, ← zero, ← cero, encodeFormat3_fields]; rfl⟩
  | readSelected =>
    obtain ⟨op, op3⟩ := enc
    obtain ⟨cero, selected⟩ := decodeReadSelected_eq_ok_iff.mp h
    have whole := encodeFormat3_fields w
    rw [op, op3, cero] at whole
    obtain ⟨ro1, rfl⟩ | ⟨ro1, rfl⟩ | ⟨ro1, rfl⟩ := selected <;> rw [ro1] at whole
    all_goals exact ⟨rfl, whole⟩
  | writeSelected =>
    obtain ⟨op, op3⟩ := enc
    obtain ⟨o, read, selected⟩ := decodeWriteSelected_eq_ok_iff.mp h
    have whole := encodeFormat3_fields w
    rw [op, op3, ← encodeOperand2_of_decode read] at whole
    obtain ⟨rd, rfl⟩ | ⟨rd, rfl⟩ | ⟨rd, rfl⟩ := selected <;> rw [rd] at whole
    all_goals exact ⟨rfl, whole⟩
  | trap =>
    obtain ⟨op, op3⟩ := enc
    obtain ⟨zero, h⟩ := guarded_eq_ok_iff.mp h
    obtain ⟨o, read, rfl⟩ := map_eq_ok_iff.mp h
    obtain ⟨wf, written⟩ := encode_trapOfCond (fieldCond w) (fieldRo1 w) o
    refine ⟨wf, ?_⟩
    rw [written, encodeTrap, encodeOperand2_of_decode read, ← zero, ← fieldRd_eq_append, ← op, ← op3,
      encodeFormat3_fields]
    rfl
  | sethi =>
    obtain ⟨op, op2⟩ := enc
    have whole := encodeFormat2_fields op
    rw [op2] at whole
    simp only [Format.decode] at h
    split at h
    case isTrue zero =>
      obtain rfl := Except.ok.inj h
      exact ⟨rfl, by rw [zero.1, zero.2] at whole; exact whole⟩
    case isFalse nonzero =>
      obtain rfl := Except.ok.inj h
      exact ⟨by simpa [WellFormed, imp_iff_not_or] using nonzero, whole⟩
  | branch =>
    obtain ⟨op, op2⟩ := enc
    obtain rfl := Except.ok.inj h
    obtain ⟨wf, written⟩ := encode_branchOfCond (fieldCond w) (fieldA w == 1#1) (fieldImm22 w)
    refine ⟨wf, ?_⟩
    rw [written, encodeBranch, ofBool_beq_one, ← fieldRd_eq_append, ← op2, encodeFormat2_fields op]
    rfl
  | call =>
    obtain rfl := Except.ok.inj h
    exact ⟨rfl, encode_call_fields enc⟩
  | unassigned r => cases h

end

/-- Settles O3: the word is written back in the format it was read in. -/
theorem encodeAfterDecode : Obligations.EncodeAfterDecode := by
  intro w i h
  rw [decode_eq] at h
  have back := written_back (formatOf_encodes _ _ _) h
  simpa only [Format.rewritten, formatOf_isShift, and_assoc] using back

end Sys2Proof
end

section
/-! PROOFS. What the encoder writes is read back, format by format. -/

namespace Sys2Proof

section
variable {op : BitVec 2} {op3 : BitVec 6} (rd ro1 : Reg)

theorem decode_encodeFormat3 {f : Format} (low : BitVec 14) (hf : ∀ op2, formatOf op op2 op3 = f) :
    decode (encodeFormat3 op rd op3 ro1 low) = f.decode (encodeFormat3 op rd op3 ro1 low) := by
  rw [decode_eq, fieldOp_encodeFormat3, fieldOp3_encodeFormat3, hf]

theorem decode_encode_format3 {k : Reg → Reg → Operand2 → Instr} (o : Operand2)
    (hf : ∀ op2, formatOf op op2 op3 = .format3 k) :
    decode (encodeFormat3 op rd op3 ro1 (encodeOperand2 o)) = .ok (k rd ro1 o) := by
  rw [decode_encodeFormat3 rd ro1 _ hf]
  simp [Format.decode, decodeFormat3, Except.map]

theorem decode_encode_shift {k : Reg → Reg → ShiftCount → Instr} (c : ShiftCount)
    (hf : ∀ op2, formatOf op op2 op3 = .shift k) :
    decode (encodeFormat3 op rd op3 ro1 (encodeCount c)) = .ok (k rd ro1 c) := by
  rw [decode_encodeFormat3 rd ro1 _ hf]
  simp [Format.decode, decodeShift, Except.map]

theorem decode_encode_rdZero {k : Reg → Operand2 → Instr} (o : Operand2)
    (hf : ∀ op2, formatOf op op2 op3 = .rdZero k) :
    decode (encodeFormat3 op 0#5 op3 ro1 (encodeOperand2 o)) = .ok (k ro1 o) := by
  rw [decode_encodeFormat3 0#5 ro1 _ hf]
  simp [Format.decode, decodeRdZero, Except.map]

theorem decode_encode_read {k : Reg → Instr} (hf : ∀ op2, formatOf op op2 op3 = .read k) :
    decode (encodeFormat3 op rd op3 0#5 0#14) = .ok (k rd) := by
  rw [decode_encodeFormat3 rd 0#5 _ hf]
  simp [Format.decode, decodeRead]

theorem decode_encode_readSelected :
    decode (encodeFormat3 0b10#2 rd 0b101000#6 ro1 0#14) =
      decodeReadSelected (encodeFormat3 0b10#2 rd 0b101000#6 ro1 0#14) :=
  decode_encodeFormat3 (f := .readSelected) rd ro1 0#14 fun _ => rfl

theorem decode_encode_writeSelected (o : Operand2) :
    decode (encodeFormat3 0b10#2 rd 0b110000#6 ro1 (encodeOperand2 o)) =
      decodeWriteSelected (encodeFormat3 0b10#2 rd 0b110000#6 ro1 (encodeOperand2 o)) :=
  decode_encodeFormat3 (f := .writeSelected) rd ro1 _ fun _ => rfl

theorem decode_encodeTrap (cond : BitVec 4) (o : Operand2) :
    decode (encodeTrap cond ro1 o) = .ok (trapOfCond cond ro1 o) := by
  rw [encodeTrap, decode_encodeFormat3 (f := .trap) _ ro1 _ fun _ => rfl]
  simp [Format.decode, decodeTrap, Except.map]

theorem decode_encodeBranch (cond : BitVec 4) (a : Bool) (disp22 : BitVec 22) :
    decode (encodeBranch cond a disp22) = .ok (branchOfCond cond a disp22) := by
  cases a <;> simp [decode_eq, encodeBranch, formatOf, op00Format, Format.decode]

theorem decode_encode_call (disp30 : BitVec 30) : decode (encode (.call disp30)) = .ok (.call disp30) := by
  simp [decode_eq, formatOf, Format.decode]

theorem decode_encode_sethi (const22 : BitVec 22) (h : WellFormed (.sethi rd const22) = true) :
    decode (encode (.sethi rd const22)) = .ok (.sethi rd const22) := by
  have nonzero : ¬ (rd = 0#5 ∧ const22 = 0#22) := by simpa [WellFormed, imp_iff_not_or] using h
  simp [decode_eq, encode, formatOf, op00Format, Format.decode, nonzero]

end

/-- Settles O2: each instruction is read back in its format. -/
theorem decodeAfterEncode : Obligations.DecodeAfterEncode := by
  intro i wf
  cases i with
  | stb rd ro1 o | sth rd ro1 o | st rd ro1 o | ldsb rd ro1 o | ldsh rd ro1 o | ldub rd ro1 o
  | lduh rd ro1 o | ld rd ro1 o | add rd ro1 o | addcc rd ro1 o | and rd ro1 o | andcc rd ro1 o
  | andn rd ro1 o | andncc rd ro1 o | or rd ro1 o | orcc rd ro1 o | orn rd ro1 o | orncc rd ro1 o
  | udiv rd ro1 o | udivcc rd ro1 o | umul rd ro1 o | umulcc rd ro1 o | sdiv rd ro1 o
  | sdivcc rd ro1 o | smul rd ro1 o | smulcc rd ro1 o | sub rd ro1 o | subcc rd ro1 o
  | xor rd ro1 o | xorcc rd ro1 o | xnor rd ro1 o | xnorcc rd ro1 o | jmp rd ro1 o
  | restore rd ro1 o | save rd ro1 o => exact decode_encode_format3 rd ro1 o fun _ => rfl
  | sll rd ro1 c | sra rd ro1 c | srl rd ro1 c => exact decode_encode_shift rd ro1 c fun _ => rfl
  | rett ro1 o | wrPsr ro1 o | wrWim ro1 o | wrTbr ro1 o =>
    exact decode_encode_rdZero ro1 o fun _ => rfl
  | rdPsr rd | rdWim rd | rdTbr rd => exact decode_encode_read rd fun _ => rfl
  | rdY rd | rdBase rd | rdLimite rd =>
    exact (decode_encode_readSelected rd _).trans (by simp [decodeReadSelected])
  | wrY ro1 o | wrBase ro1 o | wrLimite ro1 o =>
    exact (decode_encode_writeSelected _ ro1 o).trans (by simp [decodeWriteSelected, Except.map])
  | tn ro1 o | ta ro1 o | te ro1 o | tne ro1 o | tle ro1 o | tg ro1 o | tl ro1 o | tge ro1 o
  | tleu ro1 o | tgu ro1 o | tcs ro1 o | tcc ro1 o | tneg ro1 o | tpos ro1 o | tvs ro1 o
  | tvc ro1 o => exact decode_encodeTrap ro1 _ o
  | bn a d | ba a d | be a d | bne a d | ble a d | bg a d | bl a d | bge a d | bleu a d | bgu a d
  | bcs a d | bcc a d | bneg a d | bpos a d | bvs a d | bvc a d => exact decode_encodeBranch _ a d
  | sethi rd const22 => exact decode_encode_sethi rd const22 wf
  | call disp30 => exact decode_encode_call disp30
  | nop => decide

end Sys2Proof
end

section
/-! PROOFS. The opcode table is what the formats generate, and a row admits the words its format reads. -/

namespace Sys2Proof
open Machine

/-! ## Matching a row is matching its fields -/

theorem encodeFormat3_inj {op op' : BitVec 2} {rd rd' : Reg} {op3 op3' : BitVec 6} {ro1 ro1' : Reg}
    {low low' : BitVec 14} :
    encodeFormat3 op rd op3 ro1 low = encodeFormat3 op' rd' op3' ro1' low' ↔
      op = op' ∧ rd = rd' ∧ op3 = op3' ∧ ro1 = ro1' ∧ low = low' := by
  refine ⟨fun h => ⟨?_, ?_, ?_, ?_, ?_⟩, fun ⟨hop, hrd, hop3, hro1, hlow⟩ => by
    rw [hop, hrd, hop3, hro1, hlow]⟩
  · simpa using congrArg fieldOp h
  · simpa using congrArg fieldRd h
  · simpa using congrArg fieldOp3 h
  · simpa using congrArg fieldRo1 h
  · simpa [BitVec.extractLsb'_eq_self] using congrArg fieldCero14 h

/-- A row that fixes both operation codes, matched by a word that has them. -/
theorem and_row_eq_iff {w : Word} {rdMask rd ro1Mask ro1 : Reg} {lowMask low : BitVec 14} :
    w &&& encodeFormat3 0b11#2 rdMask 0x3F#6 ro1Mask lowMask =
        encodeFormat3 (fieldOp w) rd (fieldOp3 w) ro1 low ↔
      fieldRd w &&& rdMask = rd ∧ fieldRo1 w &&& ro1Mask = ro1 ∧ fieldCero14 w &&& lowMask = low := by
  have hop : fieldOp w &&& 0b11#2 = fieldOp w := BitVec.and_allOnes
  have hop3 : fieldOp3 w &&& 0x3F#6 = fieldOp3 w := BitVec.and_allOnes
  conv_lhs => lhs; rw [← encodeFormat3_fields w, encodeFormat3_and]
  simp [encodeFormat3_inj, BitVec.extractLsb'_eq_self, hop, hop3]

/-- The register rows fix `i` = 0 and bits 12:5 at zero (R64, R81). -/
theorem low_matches_reg_iff (w : Word) :
    fieldCero14 w &&& 0x3FE0#14 = 0#14 ↔ fieldI w = 0#1 ∧ fieldCero8 w = 0#8 := by
  have high : ∀ (i : BitVec 1) (c : BitVec 8),
      (i &&& 1#1) ++ (c &&& 0xFF#8) ++ 0#5 = 0#14 ↔ i = 0#1 ∧ c = 0#8 := by decide
  rw [fieldCero14_eq_reg, show 0x3FE0#14 = 1#1 ++ 0xFF#8 ++ 0#5 from rfl, BitVec.and_append,
    BitVec.and_append, BitVec.and_zero, high]

/-- The immediate rows fix `i` = 1 (R65). -/
theorem low_matches_imm_iff (w : Word) : fieldCero14 w &&& 0x2000#14 = 0x2000#14 ↔ fieldI w = 1#1 := by
  have high : ∀ i : BitVec 1, (i &&& 1#1) ++ 0#13 = 0x2000#14 ↔ i = 1#1 := by decide
  rw [fieldCero14_eq_imm, show fieldI w ++ fieldSimm13 w &&& 0x2000#14 =
    (fieldI w ++ fieldSimm13 w) &&& (1#1 ++ 0#13) from rfl, BitVec.and_append, BitVec.and_zero, high]

/-! ## The words a format reads -/

theorem decodeOperand2_accepts (w : Word) :
    (∃ o, decodeOperand2 w = .ok o) ↔
      fieldCero14 w &&& 0x3FE0#14 = 0#14 ∨ fieldCero14 w &&& 0x2000#14 = 0x2000#14 := by
  rw [low_matches_reg_iff, low_matches_imm_iff]
  unfold decodeOperand2
  split
  case isTrue imm => simp [imm]
  case isFalse reg => split <;> simp [*, fieldI_eq_zero reg]

theorem decodeCount_accepts (w : Word) :
    (∃ c, decodeCount w = .ok c) ↔ ∃ o, decodeOperand2 w = .ok o := by
  unfold decodeCount decodeOperand2
  split
  case isTrue => simp
  case isFalse => split <;> simp

/-! ## The rows of a format -/

/-- The register and the immediate row for each value the table fixes under `rdMask`. -/
def operandRows (op : BitVec 2) (op3 : BitVec 6) (rdMask : Reg) (rds : List Reg) : List (Word × Word) :=
  rds.flatMap fun rd =>
    [(encodeFormat3 0b11#2 rdMask 0x3F#6 0#5 0x3FE0#14, encodeFormat3 op rd op3 0#5 0#14),
     (encodeFormat3 0b11#2 rdMask 0x3F#6 0#5 0x2000#14, encodeFormat3 op rd op3 0#5 0x2000#14)]

/-- The row of a state-register read for each `ro1`. -/
def readRows (op : BitVec 2) (op3 : BitVec 6) (ro1s : List Reg) : List (Word × Word) :=
  ro1s.map fun ro1 =>
    (encodeFormat3 0b11#2 0#5 0x3F#6 0x1F#5 0x3FFF#14, encodeFormat3 op 0#5 op3 ro1 0#14)

/-- The sixteen `cond` fields. -/
def conds : List (BitVec 4) := (List.range 16).map (BitVec.ofNat 4)

theorem mem_conds (cond : BitVec 4) : cond ∈ conds := by revert cond; decide

/-- The rows of the opcode table that stand for a format under its operation codes. -/
def Format.rows (op : BitVec 2) (op3 : BitVec 6) : Format → List (Word × Word)
  | .format3 _ | .shift _ => operandRows op op3 0#5 [0#5]
  | .rdZero _ => operandRows op op3 0x1F#5 [0#5]
  | .read _ => readRows op op3 [0#5]
  | .readSelected => readRows op op3 [0#5, 1#5, 2#5]
  | .writeSelected => operandRows op op3 0x1F#5 [0#5, 1#5, 2#5]
  | .trap => operandRows op op3 0x1F#5 (conds.map (0b0#1 ++ ·))
  | .sethi => [(0xC1C00000#32, 0x01000000#32), (0xFFFFFFFF#32, 0x01000000#32)]
  | .branch => conds.map fun cond => (0xDFC00000#32, encodeFormat2 (0b0#1 ++ cond) 0b010#3 0#22)
  | .call => [(0xC0000000#32, 0x40000000#32)]
  | .unassigned _ => []

/-- The word matches one of the rows. -/
def MatchesOneOf (rows : List (Word × Word)) (w : Word) : Prop := ∃ r ∈ rows, w &&& r.1 = r.2

theorem matches_operandRows (w : Word) (rdMask : Reg) (rds : List Reg) :
    MatchesOneOf (operandRows (fieldOp w) (fieldOp3 w) rdMask rds) w ↔
      fieldRd w &&& rdMask ∈ rds ∧ ∃ o, decodeOperand2 w = .ok o := by
  rw [decodeOperand2_accepts]
  constructor
  · rintro ⟨r, mem, matched⟩
    obtain ⟨rd, fixed, mem⟩ := List.mem_flatMap.mp mem
    obtain rfl | rfl : _ ∨ _ := by simpa only [List.mem_cons, List.not_mem_nil, or_false] using mem
    all_goals obtain ⟨rfl, -, low⟩ := and_row_eq_iff.mp matched
    · exact ⟨fixed, .inl low⟩
    · exact ⟨fixed, .inr low⟩
  · rintro ⟨fixed, low | low⟩
    · exact ⟨_, List.mem_flatMap.mpr ⟨_, fixed, .head _⟩,
        and_row_eq_iff.mpr ⟨rfl, BitVec.and_zero, low⟩⟩
    · exact ⟨_, List.mem_flatMap.mpr ⟨_, fixed, .tail _ (.head _)⟩,
        and_row_eq_iff.mpr ⟨rfl, BitVec.and_zero, low⟩⟩

theorem matches_readRows (w : Word) (ro1s : List Reg) :
    MatchesOneOf (readRows (fieldOp w) (fieldOp3 w) ro1s) w ↔
      fieldRo1 w ∈ ro1s ∧ fieldCero14 w = 0#14 := by
  have ro1 : fieldRo1 w &&& 0x1F#5 = fieldRo1 w := BitVec.and_allOnes
  have low : fieldCero14 w &&& 0x3FFF#14 = fieldCero14 w := BitVec.and_allOnes
  simp [MatchesOneOf, readRows, and_row_eq_iff, ro1, low]

theorem mem_conds_append_iff (w : Word) :
    fieldRd w &&& 0x1F#5 ∈ conds.map (0b0#1 ++ ·) ↔ fieldA w = 0#1 := by
  have fixed : ∀ rd : Reg, rd &&& 0x1F#5 ∈ conds.map (0b0#1 ++ ·) ↔ rd.extractLsb' 4 1 = 0#1 := by
    decide
  rw [fieldA_eq, fixed]

section
variable {w : Word}

theorem matches_sethi_row (op : fieldOp w = 0b00#2) (op2 : fieldOp2 w = 0b100#3) :
    w &&& 0xC1C00000#32 = 0x01000000#32 := by
  rw [← encodeFormat2_fields op, op2]
  exact Laws.row_sethi (by decide) (by decide) (by decide)

theorem matches_branch_row (op : fieldOp w = 0b00#2) (op2 : fieldOp2 w = 0b010#3) :
    w &&& 0xDFC00000#32 = encodeFormat2 (0b0#1 ++ fieldCond w) 0b010#3 0#22 := by
  have written : encodeBranch (fieldCond w) (fieldA w == 1#1) (fieldImm22 w) = w := by
    rw [encodeBranch, ofBool_beq_one, ← fieldRd_eq_append, ← op2, encodeFormat2_fields op]
  have masked : 0b010#3 &&& fieldOp2 0xDFC00000#32 = 0b010#3 := by decide
  conv_lhs => rw [← written]
  exact Laws.row_branch (by decide) (by decide) (by rw [masked])

/-- Under its operation codes, a format reads the words that match one of its rows. -/
theorem matches_rows_iff {f : Format} (enc : f.Encodes (fieldOp w) (fieldOp2 w) (fieldOp3 w)) :
    MatchesOneOf (f.rows (fieldOp w) (fieldOp3 w)) w ↔ ∃ i, f.decode w = .ok i := by
  have whole : fieldRd w &&& 0x1F#5 = fieldRd w := BitVec.and_allOnes
  cases f with
  | format3 k =>
    simp [Format.rows, matches_operandRows, Format.decode, decodeFormat3, map_eq_ok_iff]
  | shift k =>
    simp [Format.rows, matches_operandRows, Format.decode, decodeShift, map_eq_ok_iff,
      decodeCount_accepts]
  | rdZero k =>
    simp [Format.rows, matches_operandRows, Format.decode, decodeRdZero, guarded_eq_ok_iff,
      map_eq_ok_iff, whole]
  | read k =>
    simp [Format.rows, matches_readRows, Format.decode, decodeRead, guarded_eq_ok_iff]
  | readSelected =>
    simp [Format.rows, matches_readRows, Format.decode, decodeReadSelected_eq_ok_iff, exists_or,
      and_comm]
  | writeSelected =>
    simp only [Format.rows, matches_operandRows, Format.decode, decodeWriteSelected_eq_ok_iff, whole]
    rw [exists_comm]
    simp [exists_or, and_comm]
  | trap =>
    simp [Format.rows, matches_operandRows, Format.decode, decodeTrap, guarded_eq_ok_iff,
      map_eq_ok_iff, mem_conds_append_iff]
  | sethi =>
    obtain ⟨op, op2⟩ := enc
    refine iff_of_true ⟨_, .head _, matches_sethi_row op op2⟩ ?_
    simp only [Format.decode]
    split <;> exact ⟨_, rfl⟩
  | branch =>
    obtain ⟨op, op2⟩ := enc
    exact iff_of_true
      ⟨_, List.mem_map_of_mem (mem_conds (fieldCond w)), matches_branch_row op op2⟩ ⟨_, rfl⟩
  | call =>
    refine iff_of_true ⟨_, .head _, ?_⟩ ⟨_, rfl⟩
    rw [← encode_call_fields enc]
    exact Laws.row_call _
  | unassigned r => simp [MatchesOneOf, Format.rows, Format.decode]

end

/-! ## The opcode table -/

/-- The rows of the format a word's operation codes select. -/
def rowsOf (w : Word) : List (Word × Word) :=
  (formatOf (fieldOp w) (fieldOp2 w) (fieldOp3 w)).rows (fieldOp w) (fieldOp3 w)

theorem decodes_iff_matches_rowsOf (w : Word) : (∃ i, decode w = .ok i) ↔ MatchesOneOf (rowsOf w) w := by
  rw [decode_eq]
  exact (matches_rows_iff (formatOf_encodes _ _ _)).symm

theorem mem_rowsOf_of_mem_opcodeRows {r : Word × Word} (mem : r ∈ opcodeRows) : r ∈ rowsOf r.2 := by
  have generated : opcodeRows.all (fun r => (rowsOf r.2).contains r) = true := by decide
  simpa using List.all_eq_true.mp generated r mem

theorem subset_opcodeRows {rows : List (Word × Word)}
    (h : rows.all (opcodeRows.contains ·) = true) : rows ⊆ opcodeRows := by
  intro r mem
  simpa using List.all_eq_true.mp h r mem

/-- The rows of `op` = `00` have no `op3`. -/
theorem op00_rows (op2 : BitVec 3) (op : BitVec 2) (op3 : BitVec 6) :
    (op00Format op2).rows op op3 = (op00Format op2).rows 0#2 0#6 := by
  unfold op00Format
  split <;> rfl

theorem rows_subset_opcodeRows (op : BitVec 2) (op2 : BitVec 3) (op3 : BitVec 6) :
    (formatOf op op2 op3).rows op op3 ⊆ opcodeRows := by
  have op00 : ∀ op2, ((op00Format op2).rows 0#2 0#6).all (opcodeRows.contains ·) = true := by decide
  have op10 : ∀ op3, ((op10Format op3).rows 0b10#2 op3).all (opcodeRows.contains ·) = true := by decide
  have op11 : ∀ op3, ((op11Format op3).rows 0b11#2 op3).all (opcodeRows.contains ·) = true := by decide
  apply subset_opcodeRows
  unfold formatOf
  split
  case h_1 => rw [op00_rows]; exact op00 op2
  case h_2 => rfl
  case h_3 => exact op10 op3
  case h_4 =>
    obtain rfl : op = 0b11#2 := by decide +revert
    exact op11 op3

/-- The rows of a format depend on the operation codes that select it alone. -/
theorem rows_congr (op : BitVec 2) {op2 op2' : BitVec 3} {op3 op3' : BitVec 6}
    (h2 : op = 0b00#2 → op2 = op2') (h3 : op ≠ 0b00#2 → op ≠ 0b01#2 → op3 = op3') :
    (formatOf op op2 op3).rows op op3 = (formatOf op op2' op3').rows op op3' := by
  unfold formatOf
  split
  case h_1 => rw [h2 rfl, op00_rows, op00_rows _ _ op3']
  case h_2 => rfl
  case h_3 => rw [h3 (by decide) (by decide)]
  case h_4 not00 not01 _ => rw [h3 not00 not01]

theorem extract_eq_of_matches {w m v : Word} (h : w &&& m = v) {start len : Nat}
    (full : m.extractLsb' start len = BitVec.allOnes len) :
    w.extractLsb' start len = v.extractLsb' start len := by
  rw [← h, BitVec.extractLsb'_and, full, BitVec.and_allOnes]

/-- A row fixes the operation codes that select a format. -/
theorem rowsOf_eq_of_matches {r : Word × Word} (mem : r ∈ opcodeRows) {w : Word}
    (matched : w &&& r.1 = r.2) : rowsOf w = rowsOf r.2 := by
  have op : opcodeRows.all (fun r => fieldOp r.1 == BitVec.allOnes 2) = true := by decide
  have op2 : opcodeRows.all (fun r => fieldOp r.2 != 0b00#2 || fieldOp2 r.1 == BitVec.allOnes 3) =
      true := by decide
  have op3 : opcodeRows.all (fun r => fieldOp r.2 == 0b00#2 || fieldOp r.2 == 0b01#2 ||
      fieldOp3 r.1 == BitVec.allOnes 6) = true := by decide
  simp only [List.all_eq_true, beq_iff_eq, bne_iff_ne, Bool.or_eq_true] at op op2 op3
  have sameOp : fieldOp w = fieldOp r.2 := extract_eq_of_matches matched (op r mem)
  unfold rowsOf
  rw [sameOp]
  refine rows_congr _ (fun is00 => ?_) (fun not00 not01 => ?_)
  · exact extract_eq_of_matches matched ((op2 r mem).resolve_left (not_not_intro is00))
  · exact extract_eq_of_matches matched ((op3 r mem).resolve_left (not_or_intro not00 not01))

/-- Settles O4: row by row, the table is what the formats generate. -/
theorem decoderAcceptsExactlyTheTable : Obligations.DecoderAcceptsExactlyTheTable := by
  intro w
  rw [decodes_iff_matches_rowsOf]
  constructor
  · rintro ⟨r, mem, matched⟩
    exact ⟨r, rows_subset_opcodeRows _ _ _ mem, matched⟩
  · rintro ⟨r, mem, matched⟩
    exact ⟨r, rowsOf_eq_of_matches mem matched ▸ mem_rowsOf_of_mem_opcodeRows mem, matched⟩

end Sys2Proof
end

section
/-! PROOFS. The exception of a word that is no instruction, and the values of operand 2. -/

namespace Sys2Proof.Machine

/-! ## A word in no row of the table (R80, R282) -/

theorem fetchInstr_of_undecoded {s : State} (h : ¬ ∃ i, decode (memRead32 .big s.mem s.pc) = .ok i) :
    fetchInstr settings s = .error .illegalInstruction := by
  cases decoded : decode (memRead32 .big s.mem s.pc) with
  | ok i => exact absurd ⟨i, decoded⟩ h
  | error r => simp only [fetchInstr, fetchAddress_settings, settings_byteOrder, decoded]

theorem step_of_fetch_error {s : State} {e : Exc} (running : s.errorMode = false)
    (plain : s.annul = false) (fetched : fetchInstr settings s = .error e) : step s = raise e s := by
  simp [step, running, plain, fetched]

/-- Settles O6: outside the table the decoder rejects (O4), and the step only raises. -/
theorem illegalWordTraps : Obligations.IllegalWordTraps := by
  intro s running plain outside
  have undecoded : ¬ ∃ i, decode (memRead32 .big s.mem s.pc) = .ok i := fun decodes =>
    have ⟨r, mem, matched⟩ := (decoderAcceptsExactlyTheTable _).mp decodes
    outside r mem matched
  rw [step_of_fetch_error running plain (fetchInstr_of_undecoded undecoded)]
  exact raise_effect .illegalInstruction s

/-! ## Operand 2 (R72) -/

theorem operand2_imm_toInt (s : State) (c : BitVec 13) : (s.operand2 (.imm c)).toInt = c.toInt :=
  BitVec.toInt_signExtend_of_le (by decide)

theorem operand2U_imm_toNat (s : State) (c : BitVec 13) : (s.operand2U (.imm c)).toNat = c.toNat :=
  BitVec.toNat_setWidth_of_le (by decide)

/-- Settles O20: an extension keeps the value, and 13 bits bound it. -/
theorem operandExtensions : Obligations.OperandExtensions := by
  intro s r c
  have lower : -4096 ≤ c.toInt := BitVec.le_toInt c
  have upper : c.toInt < 4096 := BitVec.toInt_lt
  refine ⟨rfl, rfl, operand2_imm_toInt s c, lower, Int.le_of_lt_add_one upper,
    operand2U_imm_toNat s c, ?_⟩
  exact Nat.le_of_lt_succ c.isLt

end Sys2Proof.Machine
end

section
/-! PROOFS. `sethi` and `nop`. -/

namespace Sys2Proof.Machine

/-! ## What the two shared endings of an instruction leave unchanged -/

/-- An instruction that ends in `aluWrite` writes `rd` and nothing else (R115, without `cc`). -/
theorem aluWrite_completes {i : Instr} {rd : Reg} {v : Word} {s : State}
    (hi : exec i s = aluWrite rd v s) : ∃ t, exec i s = .next t ∧ OnlyWrites rd v s t :=
  ⟨_, hi, setReg_advance_onlyWrites rd v s⟩

/-- The default advance moves the program counters alone (R18). -/
theorem advance_onlyMovesPc (s : State) : OnlyMovesPc s.npc (s.npc + 4#32) s s.advance :=
  ⟨rfl, rfl, ⟨rfl, rfl⟩, rfl, rfl, ⟨rfl, rfl, rfl, rfl, rfl, rfl⟩, fun _ => rfl⟩

/-! ## `sethi` and `nop` (R110, R250) -/

theorem exec_sethi (rd : Reg) (c : BitVec 22) (s : State) :
    exec (.sethi rd c) s = aluWrite rd (c ++ 0#10) s := rfl

theorem exec_nop (s : State) : exec .nop s = .next s.advance := rfl

/-- Ten zeros below `c` multiply it by 1024. -/
theorem append_ten_zeros_toNat (c : BitVec 22) : (c ++ 0#10).toNat = c.toNat * 1024 := by
  rw [BitVec.toNat_append, BitVec.toNat_ofNat, Nat.zero_mod, Nat.or_zero, Nat.shiftLeft_eq]

/-- Settles O19: `sethi` ends in `aluWrite`, `nop` in the advance. -/
theorem sethiAndNop : Obligations.SethiAndNop := by
  intro rd c s
  constructor
  · obtain ⟨t, run, writes⟩ := aluWrite_completes (exec_sethi rd c s)
    exact ⟨t, c ++ 0#10, run, writes, append_ten_zeros_toNat c⟩
  · exact ⟨s.advance, exec_nop s, advance_onlyMovesPc s⟩

end Sys2Proof.Machine
end

section
/-! PROOFS. The logic, addition and subtraction instructions: result, flags and frame; the comparisons the
branches make after `subcc`. -/

namespace Sys2Proof.Machine

/-! ## The whole effect of an instruction that leaves a result -/

/-- The action `.result` writes what it names and nothing else but the advance. -/
theorem apply_result_effect (rd : Reg) (v : Word) (y : Option Word) (f : Option Icc) (s : State) :
    Effect rd v (y.getD s.y) (f.getD s.psr.icc) s (Action.apply s (.result rd v y f)) :=
  ⟨(setReg_wroteReg s rd v).congr rfl rfl rfl, rfl, rfl, ⟨rfl, rfl, rfl, rfl, rfl, rfl⟩, fun _ => rfl,
    rfl, rfl⟩

/-- An instruction that ends in `aluWriteCc` writes `rd`, the flags and nothing else (R115, with `cc`). -/
theorem aluWriteCc_completes {i : Instr} {rd : Reg} {v : Word} {f : Icc} {s : State}
    (hi : exec i s = aluWriteCc rd v f s) : ∃ t, exec i s = .next t ∧ Effect rd v s.y f s t :=
  ⟨_, hi, apply_result_effect rd v none (some f) s⟩

/-! ## The logic, addition and subtraction instructions by the ending they share (R126 to R149) -/

section
variable (rd ro1 : Reg) (o : Operand2) (s : State)

theorem exec_and : exec (.and rd ro1 o) s = aluWrite rd (s.reg ro1 &&& s.operand2 o) s := rfl

theorem exec_andn : exec (.andn rd ro1 o) s = aluWrite rd (s.reg ro1 &&& ~~~s.operand2 o) s := rfl

theorem exec_or : exec (.or rd ro1 o) s = aluWrite rd (s.reg ro1 ||| s.operand2 o) s := rfl

theorem exec_orn : exec (.orn rd ro1 o) s = aluWrite rd (s.reg ro1 ||| ~~~s.operand2 o) s := rfl

theorem exec_xor : exec (.xor rd ro1 o) s = aluWrite rd (s.reg ro1 ^^^ s.operand2 o) s := rfl

/-- `a XOR (NOT b)` is the complement of `a XOR b`. -/
theorem exec_xnor : exec (.xnor rd ro1 o) s = aluWrite rd (~~~(s.reg ro1 ^^^ s.operand2 o)) s := by
  rw [BitVec.not_xor_right]
  rfl

theorem exec_add : exec (.add rd ro1 o) s = aluWrite rd (s.reg ro1 + s.operand2 o) s := rfl

theorem exec_sub : exec (.sub rd ro1 o) s = aluWrite rd (s.reg ro1 - s.operand2 o) s := rfl

theorem exec_andcc : exec (.andcc rd ro1 o) s =
    aluWriteCc rd (s.reg ro1 &&& s.operand2 o) (flagsLogic (s.reg ro1 &&& s.operand2 o)) s := rfl

theorem exec_andncc : exec (.andncc rd ro1 o) s =
    aluWriteCc rd (s.reg ro1 &&& ~~~s.operand2 o) (flagsLogic (s.reg ro1 &&& ~~~s.operand2 o)) s := rfl

theorem exec_orcc : exec (.orcc rd ro1 o) s =
    aluWriteCc rd (s.reg ro1 ||| s.operand2 o) (flagsLogic (s.reg ro1 ||| s.operand2 o)) s := rfl

theorem exec_orncc : exec (.orncc rd ro1 o) s =
    aluWriteCc rd (s.reg ro1 ||| ~~~s.operand2 o) (flagsLogic (s.reg ro1 ||| ~~~s.operand2 o)) s := rfl

theorem exec_xorcc : exec (.xorcc rd ro1 o) s =
    aluWriteCc rd (s.reg ro1 ^^^ s.operand2 o) (flagsLogic (s.reg ro1 ^^^ s.operand2 o)) s := rfl

/-- `a XOR (NOT b)` is the complement of `a XOR b`. -/
theorem exec_xnorcc : exec (.xnorcc rd ro1 o) s =
    aluWriteCc rd (~~~(s.reg ro1 ^^^ s.operand2 o)) (flagsLogic (~~~(s.reg ro1 ^^^ s.operand2 o))) s := by
  rw [BitVec.not_xor_right]
  rfl

theorem exec_addcc : exec (.addcc rd ro1 o) s =
    aluWriteCc rd (s.reg ro1 + s.operand2 o) (flagsAdd (s.reg ro1) (s.operand2 o)) s := rfl

theorem exec_subcc : exec (.subcc rd ro1 o) s =
    aluWriteCc rd (s.reg ro1 - s.operand2 o) (flagsSub (s.reg ro1) (s.operand2 o)) s := rfl

end

/-! ## Results without flags -/

/-- Settles O21: each of the six ends in `aluWrite`. -/
theorem logicResults : Obligations.LogicResults := by
  intro rd ro1 o s
  simp only [logicRows, List.forall_mem_cons]
  refine ⟨?and, ?andn, ?or, ?orn, ?xor, ?xnor, List.forall_mem_nil _⟩
  case and => exact aluWrite_completes (exec_and rd ro1 o s)
  case andn => exact aluWrite_completes (exec_andn rd ro1 o s)
  case or => exact aluWrite_completes (exec_or rd ro1 o s)
  case orn => exact aluWrite_completes (exec_orn rd ro1 o s)
  case xor => exact aluWrite_completes (exec_xor rd ro1 o s)
  case xnor => exact aluWrite_completes (exec_xnor rd ro1 o s)

/-- The difference of two words is that of their unsigned values, modulo 2^32. -/
theorem toNat_sub_eq_emod (a b : Word) :
    ((a - b).toNat : Int) = ((a.toNat : Int) - b.toNat) % 2 ^ 32 := by
  have := a.isLt
  have := b.isLt
  rw [BitVec.toNat_sub]
  omega

/-- Settles O23: both end in `aluWrite`. -/
theorem addAndSubResults : Obligations.AddAndSubResults := by
  intro rd ro1 o s a b
  constructor
  · obtain ⟨t, run, writes⟩ := aluWrite_completes (exec_add rd ro1 o s)
    exact ⟨t, a + b, run, writes, BitVec.toNat_add a b⟩
  · obtain ⟨t, run, writes⟩ := aluWrite_completes (exec_sub rd ro1 o s)
    exact ⟨t, a - b, run, writes, toNat_sub_eq_emod a b⟩

/-! ## Flags -/

/-- N is bit 31 of the result. -/
theorem msb_eq_bit31 (r : Word) : r.msb = r.getLsbD 31 := BitVec.msb_eq_getLsbD_last r

/-- Z holds where the result is the number zero. -/
theorem beq_zero_iff (r : Word) : (r == 0#32) = true ↔ r.toNat = 0 := by
  simp [BitVec.toNat_eq]

theorem flagsLogic_eq (r : Word) :
    flagsLogic r = { n := r.getLsbD 31, z := decide (r.toNat = 0), v := false, c := false } := by
  have zero : (r == 0#32) = decide (r.toNat = 0) :=
    Bool.eq_iff_iff.mpr ((beq_zero_iff r).trans decide_eq_true_iff.symm)
  rw [flagsLogic, msb_eq_bit31, zero]

/-- Settles O22: each of the six ends in `aluWriteCc` with the flags of its result. -/
theorem logicFlags : Obligations.LogicFlags := by
  intro rd ro1 o s
  simp only [logicCcRows, List.forall_mem_cons, ← flagsLogic_eq]
  refine ⟨?andcc, ?andncc, ?orcc, ?orncc, ?xorcc, ?xnorcc, List.forall_mem_nil _⟩
  case andcc => exact aluWriteCc_completes (exec_andcc rd ro1 o s)
  case andncc => exact aluWriteCc_completes (exec_andncc rd ro1 o s)
  case orcc => exact aluWriteCc_completes (exec_orcc rd ro1 o s)
  case orncc => exact aluWriteCc_completes (exec_orncc rd ro1 o s)
  case xorcc => exact aluWriteCc_completes (exec_xorcc rd ro1 o s)
  case xnorcc => exact aluWriteCc_completes (exec_xnorcc rd ro1 o s)

/-- V of `addcc` by the sign bits: the operands agree in sign and the sum does not (R117). -/
theorem flagsAdd_v_eq_signs (a b : Word) : (flagsAdd a b).v =
    (a.getLsbD 31 == b.getLsbD 31 && (a + b).getLsbD 31 != a.getLsbD 31) := by
  have overflow : (flagsAdd a b).v = BitVec.saddOverflow a b := by
    simp [flagsAdd, BitVec.saddOverflow, Bool.or_comm]
  rw [overflow, BitVec.saddOverflow_eq]
  simp only [msb_eq_bit31, bne]

/-- V of `subcc` by the sign bits: the operands differ in sign and the difference is not of the first's
(R118). -/
theorem flagsSub_v_eq_signs (a b : Word) : (flagsSub a b).v =
    (a.getLsbD 31 != b.getLsbD 31 && (a - b).getLsbD 31 != a.getLsbD 31) := by
  have overflow : (flagsSub a b).v = BitVec.ssubOverflow a b := by
    simp [flagsSub, BitVec.ssubOverflow, Bool.or_comm]
  rw [overflow, BitVec.ssubOverflow_eq]
  simp only [msb_eq_bit31]
  generalize a.getLsbD 31 = x, b.getLsbD 31 = y, (a - b).getLsbD 31 = z
  revert x y z
  decide

/-- Outside the range of a signed word, as the two ends or as the range denied. -/
theorem outside_signed_range_iff (x : Int) :
    (x < -2 ^ 31 ∨ 2 ^ 31 ≤ x) ↔ ¬ (-2 ^ 31 ≤ x ∧ x ≤ 2 ^ 31 - 1) := by omega

/-- Settles O24: `addcc` ends in `aluWriteCc` with `flagsAdd`, whose V is the overflow of the signs too. -/
theorem addccFlags : Obligations.AddccFlags := by
  intro rd ro1 o s a b r
  refine ⟨_, exec_addcc rd ro1 o s, apply_result_effect rd r none (some (flagsAdd a b)) s,
    msb_eq_bit31 r, beq_zero_iff r, decide_eq_true_iff, ?_, flagsAdd_v_eq_signs a b⟩
  exact decide_eq_true_iff.trans (outside_signed_range_iff _)

/-- Settles O25: `subcc` ends in `aluWriteCc` with `flagsSub`, whose V is the overflow of the signs too. -/
theorem subccFlags : Obligations.SubccFlags := by
  intro rd ro1 o s a b r
  refine ⟨_, exec_subcc rd ro1 o s, apply_result_effect rd r none (some (flagsSub a b)) s,
    msb_eq_bit31 r, beq_zero_iff r, decide_eq_true_iff, ?_, flagsSub_v_eq_signs a b⟩
  exact decide_eq_true_iff.trans (outside_signed_range_iff _)

/-- The signed value of a word is in the signed range. -/
theorem toInt_mem_signed_range (a : Word) : -2 ^ 31 ≤ a.toInt ∧ a.toInt < 2 ^ 31 :=
  ⟨BitVec.le_toInt a, BitVec.toInt_lt⟩

/-! ## The comparisons the branches make after `subcc` (R118, R172) -/

section
variable (a b : Word)

theorem flagsSub_equal : (flagsSub a b).z = decide (a = b) := by
  rw [Bool.eq_iff_iff, decide_eq_true_iff]
  exact beq_iff_eq.trans sub_eq_zero

/-- N differs from V exactly below: without overflow N is the sign of the exact difference, with overflow
the opposite of it. -/
theorem flagsSub_less : ((flagsSub a b).n ^^ (flagsSub a b).v) = decide (a.toInt < b.toInt) := by
  obtain ⟨a_lower, a_upper⟩ := toInt_mem_signed_range a
  obtain ⟨b_lower, b_upper⟩ := toInt_mem_signed_range b
  have n_iff : (flagsSub a b).n = true ↔ (a.toInt - b.toInt).bmod (2 ^ 32) < 0 := by
    rw [← BitVec.toInt_sub, flagsSub, BitVec.msb_eq_toInt, decide_eq_true_iff]
  rw [Int.bmod_def] at n_iff
  have v_iff : (flagsSub a b).v = true ↔ a.toInt - b.toInt < -2 ^ 31 ∨ 2 ^ 31 ≤ a.toInt - b.toInt :=
    decide_eq_true_iff
  rw [Bool.eq_iff_iff, decide_eq_true_iff, bne_iff_ne, ne_eq, Bool.eq_iff_iff, n_iff, v_iff]
  omega

theorem flagsSub_lessEqual :
    ((flagsSub a b).z || ((flagsSub a b).n ^^ (flagsSub a b).v)) = decide (a.toInt ≤ b.toInt) := by
  rw [flagsSub_equal, flagsSub_less, ← Bool.decide_or, decide_eq_decide, ← BitVec.toInt_inj]
  omega

theorem flagsSub_carry : (flagsSub a b).c = decide (a.toNat < b.toNat) := rfl

theorem flagsSub_lessEqualUnsigned :
    ((flagsSub a b).c || (flagsSub a b).z) = decide (a.toNat ≤ b.toNat) := by
  rw [flagsSub_equal, flagsSub_carry, ← Bool.decide_or, decide_eq_decide, BitVec.toNat_eq]
  omega

end

/-- The byte offset of `disp22` is four times the displacement, sign-extended (R73). -/
theorem offset22_eq_mul (d : BitVec 22) : offset22 d = 4#32 * d.signExtend 32 := by
  have lower : -2 ^ 21 ≤ d.toInt := BitVec.le_toInt d
  have upper : d.toInt < 2 ^ 21 := BitVec.toInt_lt
  have left : (offset22 d).toInt = 2 ^ 2 * d.toInt :=
    (BitVec.toInt_signExtend_of_le (by decide)).trans BitVec.toInt_append_zero
  have right : (d.signExtend 32).toInt = d.toInt := BitVec.toInt_signExtend_of_le (by decide)
  apply BitVec.eq_of_toInt_eq
  rw [left, BitVec.toInt_mul, right]
  exact (Int.bmod_eq_of_le (by change _ ≤ 4 * _; omega) (by change 4 * _ < _; omega)).symm

/-- A delayed transfer moves the program counters alone (R17). -/
theorem transfer_onlyMovesPc (s : State) (target : Word) :
    OnlyMovesPc s.npc target s (s.transfer target) :=
  ⟨rfl, rfl, ⟨rfl, rfl⟩, rfl, rfl, ⟨rfl, rfl, rfl, rfl, rfl, rfl⟩, fun _ => rfl⟩

/-! ## The branches at the spec's settings (R170, R171) -/

/-- At the spec's settings a taken branch does not touch the annul bit (R171, D16). -/
theorem branchWith_settings (cond : BitVec 4) (a : Bool) (d : BitVec 22) (s : State) :
    branchWith settings cond a d s = .next (if condTaken cond s.psr.icc
      then s.transfer (s.npc + offset22 d) else s.advance.annulNextIf a) := by
  rw [branchWith, settings_baAnnuls, Bool.and_false, Bool.false_and]
  split <;> rfl

/-- A relative branch moves the program counters: nPC to the target where its condition holds, and on by 4
where not (R170); it sets the annul bit where it is not taken and `a` is set (R171). -/
theorem branch_completes {i : Instr} {cond : BitVec 4} {a : Bool} {d : BitVec 22} {s : State}
    (hi : exec i s = branchWith settings cond a d s) :
    ∃ t, exec i s = .next t ∧
      OnlyMovesPc s.npc
        (if condTaken cond s.psr.icc then s.npc + 4#32 * d.signExtend 32 else s.npc + 4#32)
        s { t with annul := s.annul } ∧
      t.annul = (if a && !condTaken cond s.psr.icc then true else s.annul) := by
  refine ⟨_, hi.trans (branchWith_settings cond a d s), ?_⟩
  rw [← offset22_eq_mul]
  cases condTaken cond s.psr.icc
  · exact ⟨advance_onlyMovesPc s, by rw [Bool.not_false, Bool.and_true]; rfl⟩
  · exact ⟨transfer_onlyMovesPc s _, by rw [Bool.not_true, Bool.and_false]; rfl⟩

/-- Where a relative branch goes whose condition comes to `taken`. -/
theorem branch_goes_to {i : Instr} {cond : BitVec 4} {a taken : Bool} {d : BitVec 22} {s : State}
    (hi : exec i s = branchWith settings cond a d s) (hc : condTaken cond s.psr.icc = taken) :
    ∃ t, exec i s = .next t ∧ t.pc = s.npc ∧
      t.npc = if taken then s.npc + 4#32 * d.signExtend 32 else s.npc + 4#32 := by
  obtain ⟨t, run, ⟨hpc, hnpc, -⟩, -⟩ := branch_completes hi
  exact ⟨t, run, hpc, hc ▸ hnpc⟩

/-! ## The comparisons -/

/-- Settles O26: the flags `subcc` leaves are `flagsSub`, and what each branch reads of them is its
comparison. -/
theorem branchesCompareAfterSubcc : Obligations.BranchesCompareAfterSubcc := by
  intro rd ro1 o s t d h a b
  have flags : t.psr.icc = flagsSub a b := by
    rw [aluWriteCc_next h]
    rfl
  simp only [List.forall_mem_cons]
  refine ⟨?be, ?bne, ?bl, ?bge, ?ble, ?bg, ?bcs, ?bcc, ?bleu, ?bgu, List.forall_mem_nil _⟩
  case be =>
    exact branch_goes_to (cond := 0b0001#4) rfl
      (by rw [flags, condTaken_equal, flagsSub_equal])
  case bne =>
    exact branch_goes_to (cond := 0b1001#4) rfl
      (by simp only [flags, condTaken_notEqual, flagsSub_equal, ← decide_not])
  case bl =>
    exact branch_goes_to (cond := 0b0011#4) rfl
      (by rw [flags, condTaken_less, flagsSub_less])
  case bge =>
    exact branch_goes_to (cond := 0b1011#4) rfl
      (by simp only [flags, condTaken_greaterEqual, flagsSub_less, ← decide_not, not_lt])
  case ble =>
    exact branch_goes_to (cond := 0b0010#4) rfl
      (by rw [flags, condTaken_lessEqual, flagsSub_lessEqual])
  case bg =>
    exact branch_goes_to (cond := 0b1010#4) rfl
      (by simp only [flags, condTaken_greater, flagsSub_lessEqual, ← decide_not, not_le])
  case bcs =>
    exact branch_goes_to (cond := 0b0101#4) rfl
      (by rw [flags, condTaken_carrySet, flagsSub_carry])
  case bcc =>
    exact branch_goes_to (cond := 0b1101#4) rfl
      (by simp only [flags, condTaken_carryClear, flagsSub_carry, ← decide_not, not_lt])
  case bleu =>
    exact branch_goes_to (cond := 0b0100#4) rfl
      (by rw [flags, condTaken_lessEqualUnsigned, flagsSub_lessEqualUnsigned])
  case bgu =>
    exact branch_goes_to (cond := 0b1100#4) rfl
      (by simp only [flags, condTaken_greaterUnsigned, flagsSub_lessEqualUnsigned, ← decide_not, not_le])

end Sys2Proof.Machine
end

section
/-! PROOFS. The multiplications and divisions: result, Y, flags and frame; the zero divisor; the quotient
that does not fit. -/

namespace Sys2Proof.Machine

/-! ## Two words as one 64-bit value -/

theorem append_words_toNat (hi lo : Word) : (hi ++ lo).toNat = hi.toNat * 2 ^ 32 + lo.toNat := by
  rw [BitVec.toNat_append, ← Nat.shiftLeft_add_eq_or_of_lt lo.isLt, Nat.shiftLeft_eq]

theorem append_words_toInt (hi lo : Word) : (hi ++ lo).toInt = hi.toInt * 2 ^ 32 + lo.toNat := by
  rw [BitVec.toInt_append, Int.mul_comm]
  rfl

/-! ## The exact product (R119) -/

theorem productHigh_append_productLow (p : BitVec 64) : productHigh p ++ productLow p = p :=
  BitVec.extractLsb'_append_extractLsb'

/-- The unsigned product of two words fits in 64 bits. -/
theorem productU_exact (a b : Word) :
    (productHigh (productU a b)).toNat * 2 ^ 32 + (productLow (productU a b)).toNat =
      a.toNat * b.toNat := by
  have bound : a.toNat * b.toNat < 2 ^ 32 * 2 ^ 32 := Nat.mul_lt_mul'' a.isLt b.isLt
  rw [← append_words_toNat, productHigh_append_productLow, productU, BitVec.toNat_mul,
    BitVec.toNat_setWidth_of_le (by decide), BitVec.toNat_setWidth_of_le (by decide)]
  exact Nat.mod_eq_of_lt bound

/-- The signed product of two words fits in 64 bits. -/
theorem productS_exact (a b : Word) :
    (productHigh (productS a b)).toInt * 2 ^ 32 + (productLow (productS a b)).toNat =
      a.toInt * b.toInt := by
  have lower : -2 ^ 62 ≤ a.toInt * b.toInt := BitVec.le_toInt_mul_toInt
  have upper : a.toInt * b.toInt ≤ 2 ^ 62 := BitVec.toInt_mul_toInt_le
  rw [← append_words_toInt, productHigh_append_productLow, productS, BitVec.toInt_mul,
    BitVec.toInt_signExtend_of_le (by decide), BitVec.toInt_signExtend_of_le (by decide)]
  exact Int.bmod_eq_of_le (by omega) (by omega)

/-! ## The multiplications -/

section
variable {i : Instr} {rd : Reg} {p : BitVec 64} {s : State}

/-- A multiplication without `cc` writes `rd` and Y and nothing else (R119). -/
theorem mulWrite_completes (hi : exec i s = .next (mulWrite rd p s).advance) :
    ∃ t, exec i s = .next t ∧ Effect rd (productLow p) (productHigh p) s.psr.icc s t :=
  ⟨_, hi, apply_result_effect rd (productLow p) (some (productHigh p)) none s⟩

/-- A multiplication with `cc` writes `rd`, Y, the flags of the low word and nothing else (R119, R120). -/
theorem mulWriteCc_completes
    (hi : exec i s = .next ((mulWrite rd p s).setIcc (flagsMul (productLow p))).advance) :
    ∃ t, exec i s = .next t ∧
      Effect rd (productLow p) (productHigh p) (flagsMul (productLow p)) s t :=
  ⟨_, hi, apply_result_effect rd (productLow p) (some (productHigh p)) (some (flagsMul _)) s⟩

end

section
variable (rd ro1 : Reg) (o : Operand2) (s : State)

theorem exec_umul : exec (.umul rd ro1 o) s =
    .next (mulWrite rd (productU (s.reg ro1) (s.operand2U o)) s).advance := rfl

theorem exec_umulcc : exec (.umulcc rd ro1 o) s =
    .next ((mulWrite rd (productU (s.reg ro1) (s.operand2U o)) s).setIcc
      (flagsMul (productLow (productU (s.reg ro1) (s.operand2U o))))).advance := rfl

theorem exec_smul : exec (.smul rd ro1 o) s =
    .next (mulWrite rd (productS (s.reg ro1) (s.operand2 o)) s).advance := rfl

theorem exec_smulcc : exec (.smulcc rd ro1 o) s =
    .next ((mulWrite rd (productS (s.reg ro1) (s.operand2 o)) s).setIcc
      (flagsMul (productLow (productS (s.reg ro1) (s.operand2 o))))).advance := rfl

theorem exec_udiv : exec (.udiv rd ro1 o) s =
    divideWith false divideU false rd (s.reg ro1) (s.operand2U o) s := rfl

theorem exec_udivcc : exec (.udivcc rd ro1 o) s =
    divideWith false divideU true rd (s.reg ro1) (s.operand2U o) s := rfl

theorem exec_sdiv : exec (.sdiv rd ro1 o) s =
    divideWith true divideS false rd (s.reg ro1) (s.operand2 o) s := rfl

theorem exec_sdivcc : exec (.sdivcc rd ro1 o) s =
    divideWith true divideS true rd (s.reg ro1) (s.operand2 o) s := rfl

end

/-- Settles O27: the 64-bit product is exact, and the flags of the low word are those of any result. -/
theorem products : Obligations.Products := by
  intro rd ro1 o s a low
  have flags (v : Word) : flagsMul v = low v := flagsLogic_eq v
  refine ⟨?umul, ?umulcc, ?smul, ?smulcc⟩
  case umul =>
    obtain ⟨t, run, effect⟩ := mulWrite_completes (exec_umul rd ro1 o s)
    exact ⟨t, _, _, run, effect, productU_exact a _⟩
  case umulcc =>
    obtain ⟨t, run, effect⟩ := mulWriteCc_completes (exec_umulcc rd ro1 o s)
    exact ⟨t, _, _, run, flags _ ▸ effect, productU_exact a _⟩
  case smul =>
    obtain ⟨t, run, effect⟩ := mulWrite_completes (exec_smul rd ro1 o s)
    exact ⟨t, _, _, run, effect, productS_exact a _⟩
  case smulcc =>
    obtain ⟨t, run, effect⟩ := mulWriteCc_completes (exec_smulcc rd ro1 o s)
    exact ⟨t, _, _, run, flags _ ▸ effect, productS_exact a _⟩

/-! ## The three ways a division goes (R121 to R124) -/

section
variable {i : Instr} {signed cc : Bool} {divide : Word → Word → Word → Option (Word × Word)} {rd : Reg}
  {a b q r : Word} {s : State}

theorem divWrite_effect (f : Icc) :
    Effect rd q r (if cc then f else s.psr.icc) s (divWrite cc rd q r f s) := by
  rw [divWrite_eq_apply]
  cases cc
  · exact apply_result_effect rd q (some r) none s
  · exact apply_result_effect rd q (some r) (some f) s

theorem divide_by_zero (hi : exec i s = divideWith signed divide cc rd a b s) (hb : b = 0#32) :
    exec i s = raise .divisionByZero s := by
  rw [hi, divideWith, if_pos hb]

/-- A division whose quotient fits writes the quotient, the remainder and, for `cc`, the flags. -/
theorem divide_completes (hi : exec i s = divideWith signed divide cc rd a b s) (hb : b ≠ 0#32)
    (fits : divide s.y a b = some (q, r)) :
    ∃ t, exec i s = .next t ∧ Effect rd q r (if cc then flagsDiv q else s.psr.icc) s t := by
  refine ⟨_, ?_, divWrite_effect (flagsDiv q)⟩
  rw [hi, divideWith, if_neg hb, fits]

/-- A division whose quotient does not fit writes what `DIV_OVERFLOW` gives. -/
theorem divide_overflows (hi : exec i s = divideWith signed divide cc rd a b s) (hb : b ≠ 0#32)
    (overflow : divide s.y a b = none) :
    let d := Config.divOverflow signed s.y a b
    ∃ t, exec i s = .next t ∧
      Effect rd d.quot d.rem (if cc then flagsDivOverflow d else s.psr.icc) s t := by
  refine ⟨_, ?_, divWrite_effect (flagsDivOverflow _)⟩
  rw [hi, divideWith, if_neg hb, overflow]

end

/-- Settles O30: each of the four raises, and raising is all it does. -/
theorem divisionByZeroTraps : Obligations.DivisionByZeroTraps := by
  intro rd ro1 o s i h
  have raised : exec i s = raise .divisionByZero s := by
    simp only [List.mem_cons, List.not_mem_nil, or_false] at h
    obtain ⟨hb, rfl | rfl⟩ | ⟨hb, rfl | rfl⟩ := h
    · exact divide_by_zero (exec_udiv rd ro1 o s) hb
    · exact divide_by_zero (exec_udivcc rd ro1 o s) hb
    · exact divide_by_zero (exec_sdiv rd ro1 o s) hb
    · exact divide_by_zero (exec_sdivcc rd ro1 o s) hb
  rw [raised]
  exact raise_effect _ s

/-! ## The unsigned quotient -/

section
variable {y a b : Word}

/-- The quotient of `Y :: a` by `b` fits in a word exactly where Y is below `b`. -/
theorem quotientU_fits_iff (hb : b ≠ 0#32) : (y ++ a).toNat / b.toNat < 2 ^ 32 ↔ y.toNat < b.toNat := by
  have positive : 0 < b.toNat := Nat.pos_of_ne_zero fun h => hb (BitVec.eq_of_toNat_eq h)
  rw [Nat.div_lt_iff_lt_mul positive, append_words_toNat]
  omega

/-- The quotient and the remainder where the quotient fits. -/
theorem divideU_fits (h : y.toNat < b.toNat) : ∃ q r : Word, divideU y a b = some (q, r) ∧
    y.toNat * 2 ^ 32 + a.toNat = q.toNat * b.toNat + r.toNat ∧ r.toNat < b.toNat := by
  have hb : b ≠ 0#32 := by rintro rfl; exact Nat.not_lt_zero _ h
  have fits := (quotientU_fits_iff (a := a) hb).mpr h
  have small : (y ++ a).toNat % b.toNat < b.toNat := Nat.mod_lt _ (Nat.zero_lt_of_lt h)
  refine ⟨_, _, if_pos fits, ?_, ?_⟩
  · rw [BitVec.toNat_ofNat, BitVec.toNat_ofNat, Nat.mod_eq_of_lt fits,
      Nat.mod_eq_of_lt (small.trans b.isLt), Nat.div_add_mod', append_words_toNat]
  · rw [BitVec.toNat_ofNat, Nat.mod_eq_of_lt (small.trans b.isLt)]
    exact small

theorem divideU_overflows (hb : b ≠ 0#32) (h : b.toNat ≤ y.toNat) : divideU y a b = none :=
  if_neg fun fits => Nat.not_lt_of_le h ((quotientU_fits_iff hb).mp fits)

end

/-- Settles O28: the quotient fits, so both write it and the remainder. -/
theorem unsignedQuotients : Obligations.UnsignedQuotients := by
  intro rd ro1 o s a b h
  have hb : b ≠ 0#32 := by rintro hb; simp [hb] at h
  obtain ⟨q, r, fits, division, small⟩ := divideU_fits (a := a) h
  simp only [← flagsLogic_eq]
  exact ⟨q, r, division, small, divide_completes (exec_udiv rd ro1 o s) hb fits,
    divide_completes (exec_udivcc rd ro1 o s) hb fits⟩

/-! ## The signed quotient -/

/-- Rounding toward zero gives the only quotient whose remainder is smaller than the divisor and zero or of
the sign of the dividend. -/
theorem tdiv_eq_of_remainder {d b q r : Int} (hb : b ≠ 0) (hd : d = q * b + r)
    (small : r.natAbs < b.natAbs) (nonneg : 0 ≤ d → 0 ≤ r) (nonpos : d ≤ 0 → r ≤ 0) :
    d.tdiv b = q := by
  have division : r + b * q = d := by rw [hd, Int.mul_comm, Int.add_comm]
  obtain h | h := Int.le_total 0 d
  · have := nonneg h
    exact ((Int.tdiv_tmod_unique h hb).mpr ⟨division, this, by omega⟩).1
  · have := nonpos h
    exact ((Int.tdiv_tmod_unique' h hb).mpr ⟨division, by omega, this⟩).1

theorem toInt_ofInt_of_signed_range {x : Int} (lower : -2 ^ 31 ≤ x) (upper : x < 2 ^ 31) :
    (BitVec.ofInt 32 x).toInt = x :=
  BitVec.toInt_ofInt_eq_self (by decide) lower upper

/-- A remainder smaller than a word in size is a signed word. -/
theorem toInt_ofInt_of_natAbs_lt {x : Int} {b : Word} (small : x.natAbs < b.toInt.natAbs) :
    (BitVec.ofInt 32 x).toInt = x := by
  obtain ⟨lower, upper⟩ := toInt_mem_signed_range b
  exact toInt_ofInt_of_signed_range (by omega) (by omega)

/-- What `divideS` answers, by the quotient rounded toward zero. -/
theorem divideS_eq {y a b : Word} {d q : Int} (hd : y.toInt * 2 ^ 32 + a.toNat = d)
    (hq : d.tdiv b.toInt = q) : divideS y a b = if -2 ^ 31 ≤ q ∧ q < 2 ^ 31
      then some (BitVec.ofInt 32 q, BitVec.ofInt 32 (d - q * b.toInt)) else none := by
  rw [divideS, append_words_toInt, hd, hq]

/-- Settles O29: the quotient rounded toward zero is the one given, and both write it and the remainder. -/
theorem signedQuotients : Obligations.SignedQuotients := by
  intro rd ro1 o s q r d b hb hd small nonneg nonpos lower upper
  have hq : d.tdiv b = q := tdiv_eq_of_remainder hb hd small nonneg nonpos
  have hr : d - q * b = r := by omega
  have range : -2 ^ 31 ≤ q ∧ q < 2 ^ 31 := ⟨lower, by omega⟩
  have fits : divideS s.y (s.reg ro1) (s.operand2 o) = some (BitVec.ofInt 32 q, BitVec.ofInt 32 r) := by
    rw [divideS_eq rfl hq, if_pos range, hr]
  have divisor : s.operand2 o ≠ 0#32 := fun h => hb (congrArg BitVec.toInt h)
  simp only [← flagsLogic_eq]
  exact ⟨_, _, toInt_ofInt_of_signed_range range.1 range.2, toInt_ofInt_of_natAbs_lt small,
    divide_completes (exec_sdiv rd ro1 o s) divisor fits,
    divide_completes (exec_sdivcc rd ro1 o s) divisor fits⟩

/-! ## The quotient that does not fit -/

/-- Settles O31: neither division finds a quotient, so all four write what `DIV_OVERFLOW` gives. -/
theorem quotientOverflowIsOpen : Obligations.QuotientOverflowIsOpen := by
  intro rd ro1 o s a u v d q
  refine ⟨fun hb h => ?unsigned, fun hb h => ?signed⟩
  case unsigned =>
    have overflow : divideU s.y a (s.operand2U o) = none := divideU_overflows hb h
    exact ⟨divide_overflows (exec_udiv rd ro1 o s) hb overflow,
      divide_overflows (exec_udivcc rd ro1 o s) hb overflow⟩
  case signed =>
    have outside : ¬ (-2 ^ 31 ≤ q ∧ q < 2 ^ 31) := by omega
    have overflow : divideS s.y a (s.operand2 o) = none := (divideS_eq rfl rfl).trans (if_neg outside)
    exact ⟨divide_overflows (exec_sdiv rd ro1 o s) hb overflow,
      divide_overflows (exec_sdivcc rd ro1 o s) hb overflow⟩

end Sys2Proof.Machine
end

section
/-! PROOFS. The shifts: count, result and frame. -/

namespace Sys2Proof.Machine

/-! ## The count (R160) -/

/-- The low five bits of a register are its value modulo 32 (D13). -/
theorem shiftCount_reg (s : State) (ro2 : Reg) : s.shiftCount (.reg ro2) = (s.reg ro2).toNat % 32 :=
  BitVec.extractLsb'_toNat 0 5 (s.reg ro2)

theorem shiftCount_imm (s : State) (const5 : BitVec 5) : s.shiftCount (.imm const5) = const5.toNat := rfl

theorem shiftCount_lt (s : State) (o : ShiftCount) : s.shiftCount o < 32 := by
  cases o with
  | reg ro2 => exact ((s.reg ro2).extractLsb' 0 5).isLt
  | imm const5 => exact const5.isLt

/-! ## What a shift does to the value -/

section
variable (a : Word) (n : Nat)

/-- Zeros enter on the right and the high bits are lost (R161). -/
theorem shiftLeft_toNat_eq_mul_mod : (a <<< n).toNat = a.toNat * 2 ^ n % 2 ^ 32 := by
  rw [BitVec.toNat_shiftLeft, Nat.shiftLeft_eq]

/-- Zeros enter on the left: the unsigned floor (R163). -/
theorem ushiftRight_toNat_eq_div : (a >>> n).toNat = a.toNat / 2 ^ n := by
  rw [BitVec.toNat_ushiftRight, Nat.shiftRight_eq_div_pow]

/-- Copies of bit 31 enter on the left: the signed floor, also of a negative value (R162). -/
theorem sshiftRight_toInt_eq_fdiv : (a.sshiftRight n).toInt = a.toInt.fdiv (2 ^ n) := by
  have divisor : (0 : Int) ≤ 2 ^ n := Int.pow_nonneg (by decide)
  rw [BitVec.toInt_sshiftRight, Int.shiftRight_eq_div_pow, Int.fdiv_eq_ediv_of_nonneg _ divisor]
  exact congrArg (a.toInt / ·) (Nat.cast_pow 2 n)

end

/-! ## The three instructions -/

section
variable (rd ro1 : Reg) (o : ShiftCount) (s : State)

theorem exec_sll : exec (.sll rd ro1 o) s = aluWrite rd (s.reg ro1 <<< s.shiftCount o) s := rfl

theorem exec_srl : exec (.srl rd ro1 o) s = aluWrite rd (s.reg ro1 >>> s.shiftCount o) s := rfl

theorem exec_sra : exec (.sra rd ro1 o) s =
    aluWrite rd ((s.reg ro1).sshiftRight (s.shiftCount o)) s := rfl

end

/-- Settles O32: each of the three ends in `aluWrite`, and its count is `shiftCount`. -/
theorem shiftResults : Obligations.ShiftResults := by
  intro rd ro1 o s a n
  have count : n = s.shiftCount o := by
    cases o with
    | reg ro2 => exact (shiftCount_reg s ro2).symm
    | imm const5 => exact (shiftCount_imm s const5).symm
  rw [count]
  refine ⟨shiftCount_lt s o, ?sll, ?srl, ?sra⟩
  case sll =>
    obtain ⟨t, run, writes⟩ := aluWrite_completes (exec_sll rd ro1 o s)
    exact ⟨t, _, run, writes, shiftLeft_toNat_eq_mul_mod a _⟩
  case srl =>
    obtain ⟨t, run, writes⟩ := aluWrite_completes (exec_srl rd ro1 o s)
    exact ⟨t, _, run, writes, ushiftRight_toNat_eq_div a _⟩
  case sra =>
    obtain ⟨t, run, writes⟩ := aluWrite_completes (exec_sra rd ro1 o s)
    exact ⟨t, _, run, writes, sshiftRight_toInt_eq_fdiv a _⟩

end Sys2Proof.Machine
end

section
/-! PROOFS. The relative branches: PC, nPC, the annul bit and the frame. -/

namespace Sys2Proof.Machine

/-- The sixteen rows are the sixteen `cond` values: each instruction is `branchWith` at one of them, and what
the row says of N, Z, V, C is what that value reads of them (R172, R174 to R189). -/
theorem exists_cond_of_mem_branchRows {a : Bool} {d : BitVec 22} {f : Icc} {row : Instr × Bool}
    (h : row ∈ branchRows a d f) :
    ∃ cond, (∀ s, exec row.1 s = branchWith settings cond a d s) ∧ condTaken cond f = row.2 := by
  revert row
  simp only [branchRows, List.forall_mem_cons]
  refine ⟨?bn, ?ba, ?be, ?bne, ?ble, ?bg, ?bl, ?bge, ?bleu, ?bgu, ?bcs, ?bcc, ?bneg, ?bpos, ?bvs, ?bvc,
    List.forall_mem_nil _⟩
  case bn => exact ⟨0b0000#4, fun _ => rfl, condTaken_never f⟩
  case ba => exact ⟨0b1000#4, fun _ => rfl, condTaken_always f⟩
  case be => exact ⟨0b0001#4, fun _ => rfl, condTaken_equal f⟩
  case bne => exact ⟨0b1001#4, fun _ => rfl, condTaken_notEqual f⟩
  case ble => exact ⟨0b0010#4, fun _ => rfl, condTaken_lessEqual f⟩
  case bg => exact ⟨0b1010#4, fun _ => rfl, condTaken_greater f⟩
  case bl => exact ⟨0b0011#4, fun _ => rfl, condTaken_less f⟩
  case bge => exact ⟨0b1011#4, fun _ => rfl, condTaken_greaterEqual f⟩
  case bleu => exact ⟨0b0100#4, fun _ => rfl, condTaken_lessEqualUnsigned f⟩
  case bgu => exact ⟨0b1100#4, fun _ => rfl, condTaken_greaterUnsigned f⟩
  case bcs => exact ⟨0b0101#4, fun _ => rfl, condTaken_carrySet f⟩
  case bcc => exact ⟨0b1101#4, fun _ => rfl, condTaken_carryClear f⟩
  case bneg => exact ⟨0b0110#4, fun _ => rfl, condTaken_negative f⟩
  case bpos => exact ⟨0b1110#4, fun _ => rfl, condTaken_positive f⟩
  case bvs => exact ⟨0b0111#4, fun _ => rfl, condTaken_overflowSet f⟩
  case bvc => exact ⟨0b1111#4, fun _ => rfl, condTaken_overflowClear f⟩

/-- Settles O33: every row is a `branchWith`, and what a `branchWith` does is `branch_completes`. -/
theorem branchesTransfer : Obligations.BranchesTransfer := by
  intro a d s row hrow
  obtain ⟨cond, isBranchWith, taken⟩ := exists_cond_of_mem_branchRows hrow
  rw [← taken]
  exact branch_completes (isBranchWith s)

/-- What a taken branch leaves in the annul bit at any parameters: only `ba,a` under `BA_A_ANNULS` sets it
(R171). -/
theorem branchWith_taken_annul {p : Params} {cond : BitVec 4} {a : Bool} {d : BitVec 22} {s t : State}
    (run : branchWith p cond a d s = .next t) (taken : condTaken cond s.psr.icc = true) :
    t.annul = if a && p.baAnnuls && cond == 0b1000#4 then true else s.annul := by
  obtain ⟨-, rfl⟩ | ⟨untaken, -⟩ := branchWith_cases run
  · exact annulNextIf_annul ..
  · rw [taken] at untaken
    contradiction

/-- Settles O34: the annul bit of a taken branch, started from a clear one. -/
theorem baAnnulParameter : Obligations.BaAnnulParameter := by
  intro p cond a d s t run clear taken
  rw [branchWith_taken_annul run taken, clear]
  simp [and_assoc, and_left_comm]

end Sys2Proof.Machine
end

section
/-! PROOFS. `jmp`, `rett` and `call`: link, transfer and frame; the return pair after trap entry; which step
changes the mode bit. -/

namespace Sys2Proof.Machine

/-! ## What the three instructions do at the spec's settings (R200, R203, R205) -/

section
variable (rd : Reg) {ro1 : Reg} {o : Operand2} {s : State}

theorem exec_jmp_of_aligned (h : Aligned4 (s.dir ro1 o)) :
    exec (.jmp rd ro1 o) s = .next ((s.setReg rd (s.dir ro1 o)).transfer (s.dir ro1 o)) :=
  if_pos (isWordAligned_of_mod h)

theorem exec_rett_of_aligned (h : Aligned4 (s.dir ro1 o)) :
    exec (.rett ro1 o) s = .next (returnFromTrap (s.dir ro1 o) s) :=
  if_pos (isWordAligned_of_mod h)

theorem exec_call (d : BitVec 30) (s : State) :
    exec (.call d) s = .next ((s.setReg 15#5 s.pc).transfer (s.npc + offset30 d)) := rfl

end

/-- Two zeros below a displacement multiply it by 4 (R73). -/
theorem offset30_toNat (d : BitVec 30) : (offset30 d).toNat = 4 * d.toNat := by
  rw [offset30, BitVec.toNat_append, BitVec.toNat_ofNat, Nat.zero_mod, Nat.or_zero, Nat.shiftLeft_eq,
    Nat.mul_comm]

/-! ## What they leave unchanged -/

/-- A delayed transfer that links writes `rd` (R200, R205). -/
theorem setReg_transfer_wroteReg (s : State) (rd : Reg) (v target : Word) :
    WroteReg rd v s ((s.setReg rd v).transfer target) :=
  (setReg_wroteReg s rd v).congr rfl rfl rfl

/-- A delayed transfer that links touches none of WIM, TBR, BASE, LIMITE, `annul` and `error_mode`. -/
theorem setReg_transfer_specialsKept (s : State) (rd : Reg) (v target : Word) :
    SpecialsKept s ((s.setReg rd v).transfer target) := ⟨rfl, rfl, rfl, rfl, rfl, rfl⟩

/-- The return from a trap touches none of WIM, TBR, BASE, LIMITE, `annul` and `error_mode`. -/
theorem returnFromTrap_specialsKept (dir : Word) (s : State) :
    SpecialsKept s (returnFromTrap dir s) := ⟨rfl, rfl, rfl, rfl, rfl, rfl⟩

/-- Settles O35: an aligned `jmp` links and transfers. -/
theorem jmpCompletes : Obligations.JmpCompletes := by
  intro rd ro1 o s dir aligned
  exact ⟨_, exec_jmp_of_aligned rd aligned, setReg_transfer_wroteReg s rd dir dir, rfl, rfl, rfl, rfl,
    setReg_transfer_specialsKept s rd dir dir, fun _ => rfl⟩

/-- Settles O36: `call` links and transfers, by the offset `offset30_toNat`. -/
theorem callCompletes : Obligations.CallCompletes := by
  intro d s
  have target : (s.npc + offset30 d).toNat = (s.npc.toNat + 4 * d.toNat) % 2 ^ 32 := by
    rw [BitVec.toNat_add, offset30_toNat]
  exact ⟨_, exec_call d s, setReg_transfer_wroteReg s 15#5 s.pc _, rfl, target, rfl, rfl,
    setReg_transfer_specialsKept s 15#5 s.pc _, fun _ => rfl⟩

/-- Settles O37: what an aligned `rett` writes is `psrReturn` and the program counters. -/
theorem rettCompletes : Obligations.RettCompletes := by
  intro ro1 o s dir aligned
  have window : (s.psr.cwp + 1#5).toNat = (s.psr.cwp.toNat + 1) % 32 := BitVec.toNat_add _ _
  exact ⟨_, exec_rett_of_aligned aligned, window, rfl, rfl, rfl, rfl, rfl, rfl, ⟨rfl, rfl⟩, rfl,
    returnFromTrap_specialsKept dir s, fun _ => rfl⟩

/-! ## The return pair (R204, R295) -/

/-- With `%g0` as operand 2 the effective address is the register alone (R11, R90). -/
theorem dir_g0 (s : State) (r : Reg) : s.dir r (.reg 0#5) = s.reg r := BitVec.add_zero _

/-- `jmp %g0, %g0, r` transfers to the address in `r` and links nothing. -/
theorem exec_jmp_through {r : Reg} {s : State} (h : Aligned4 (s.reg r)) :
    exec (.jmp 0#5 r (.reg 0#5)) s = .next (s.transfer (s.reg r)) := by
  rw [exec_jmp_of_aligned 0#5 (by rwa [dir_g0]), dir_g0]
  rfl

/-- `rett %g0, %g0, r` returns to the address in `r`. -/
theorem exec_rett_through {r : Reg} {s : State} (h : Aligned4 (s.reg r)) :
    exec (.rett r (.reg 0#5)) s = .next (returnFromTrap (s.reg r) s) := by
  rw [exec_rett_of_aligned (by rwa [dir_g0]), dir_g0]

/-- A delayed transfer changes no register. -/
theorem transfer_reg (s : State) (a : Word) (r : Reg) : (s.transfer a).reg r = s.reg r :=
  reg_congr s _ r rfl rfl rfl

/-- Down a window and up again, ET cleared and set, S saved in PS and put back: only PS tells. -/
theorem psrReturn_psrTrap {p : Psr} (h : p.et = true) : psrReturn (psrTrap p) = { p with ps := p.s } := by
  simp [psrReturn, psrTrap, h]

/-- The pair, run after trap entry: `%l1` holds the PC it goes back to, `%l2` the nPC. -/
theorem exec_return_pair {tt : BitVec 8} {s : State} (hpc : Aligned4 s.pc) (hnpc : Aligned4 s.npc) :
    exec (.jmp 0#5 17#5 (.reg 0#5)) (trapEntry tt s) = .next ((trapEntry tt s).transfer s.pc) ∧
    exec (.rett 18#5 (.reg 0#5)) ((trapEntry tt s).transfer s.pc) =
      .next (returnFromTrap s.npc ((trapEntry tt s).transfer s.pc)) := by
  have l1 : (trapEntry tt s).reg 17#5 = s.pc := trapEntry_reg_l1 tt s
  have l2 : ((trapEntry tt s).transfer s.pc).reg 18#5 = s.npc :=
    (transfer_reg _ _ _).trans (trapEntry_reg_l2 tt s)
  constructor
  · rw [exec_jmp_through (by rwa [l1]), l1]
  · rw [exec_rett_through (by rwa [l2]), l2]

/-- Settles O44: the pair goes back (`exec_return_pair`), and the rest is what trap entry kept. -/
theorem returnPairUndoesTrapEntry : Obligations.ReturnPairUndoesTrapEntry := by
  refine ⟨decodeAfterEncode (.jmp 0#5 17#5 (.reg 0#5)) rfl, decodeAfterEncode (.rett 18#5 (.reg 0#5)) rfl,
    fun e s enabled hpc hnpc => ?_⟩
  obtain ⟨jumps, returns⟩ := exec_return_pair (tt := trapType e) hpc hnpc
  have entered := trapEntry_trapEntered (trapType e) s
  rw [takeTrap_of_enabled enabled]
  exact ⟨_, _, jumps, returns, rfl, rfl, psrReturn_psrTrap enabled, rfl, entered.globals,
    entered.windows, rfl, rfl, rfl, rfl, rfl, rfl, fun _ => rfl⟩

/-! ## The mode bit (R301, log entry 8) -/

/-- Of the actions only `wr %psr` and the return from a trap change S, which the return takes from PS. -/
theorem wrPsr_or_rett_of_mode_ne {i : Instr} {s : State} {a : Action} (permitted : a.PermittedTo i s)
    (h : (a.apply s).psr.s ≠ s.psr.s) :
    (∃ ro1 o, i = .wrPsr ro1 o) ∨ ∃ ro1 o, i = .rett ro1 o ∧ (a.apply s).psr.s = s.psr.ps := by
  cases a with
  | trapReturn dir =>
    obtain ⟨-, ro1, o, rfl⟩ := permitted
    exact .inr ⟨ro1, o, rfl, rfl⟩
  | stateWrite r v =>
    obtain ⟨ro1, o, rfl, -⟩ := permitted
    cases r with
    | psr => exact .inl ⟨ro1, o, rfl⟩
    | _ => exact absurd rfl h
  | _ => exact absurd rfl h

/-- An exception that changes S entered a trap, which sets it (R290); error mode keeps it (R293). -/
theorem takeTrap_mode_ne {e : Exc} {s : State} (h : (takeTrap e s).psr.s ≠ s.psr.s) :
    EnteredTrap s (takeTrap e s) ∧ (takeTrap e s).psr.s = true := by
  obtain ⟨het, ht⟩ | ⟨-, ht⟩ := takeTrap_cases e s
  · exact ⟨⟨het, e, ht⟩, by rw [ht, trapEntry_psr]; rfl⟩
  · rw [ht] at h
    exact absurd rfl h

/-- Settles O52. An annulled slot keeps S. -/
theorem modeChanges : Obligations.ModeChanges := by
  intro s t hstep hne
  obtain rfl | ⟨-, -, e, rfl⟩ | ⟨i, a, executes, permitted, rfl⟩ := step_next_cases hstep
  · exact absurd rfl hne
  · exact .inl (takeTrap_mode_ne hne)
  · obtain ⟨ro1, o, rfl⟩ | ⟨ro1, o, rfl, mode⟩ := wrPsr_or_rett_of_mode_ne permitted hne
    · exact .inr (.inl ⟨ro1, o, executes⟩)
    · exact .inr (.inr ⟨ro1, o, executes, mode⟩)

end Sys2Proof.Machine
end

section
/-! PROOFS. `save` and `restore`: the sum, the window and the frame; one after the other; the window checks
a parameter turns on. -/

namespace Sys2Proof.Machine

/-! ## The window below and the window above (R216, R217) -/

/-- The window below is 31 up modulo 32. -/
theorem window_below_toNat (c : BitVec 5) : (c - 1#5).toNat = (c.toNat + 31) % 32 := by
  rw [BitVec.toNat_sub, Nat.add_comm]
  rfl

theorem window_above_toNat (c : BitVec 5) : (c + 1#5).toNat = (c.toNat + 1) % 32 := BitVec.toNat_add c 1#5

/-! ## What the two instructions do at the spec's settings: the action `.window` -/

section
variable (rd ro1 : Reg) (o : Operand2) (s : State)

theorem exec_save : exec (.save rd ro1 o) s =
    .next (Action.apply s (.window (s.psr.cwp - 1#5) rd (s.reg ro1 + s.operand2 o))) := rfl

theorem exec_restore : exec (.restore rd ro1 o) s =
    .next (Action.apply s (.window (s.psr.cwp + 1#5) rd (s.reg ro1 + s.operand2 o))) := rfl

end

section
variable (w : BitVec 5) (rd : Reg) (v : Word) (s : State)

/-- The register written is the one `rd` names in the window entered (R215). -/
theorem apply_window_wroteReg : WroteReg rd v s (Action.apply s (.window w rd v)) :=
  (setReg_wroteReg (s.setCwp w) rd v).congr rfl rfl rfl

theorem apply_window_psr : (Action.apply s (.window w rd v)).psr = { s.psr with cwp := w } := rfl

theorem apply_window_specialsKept : SpecialsKept s (Action.apply s (.window w rd v)) :=
  ⟨rfl, rfl, rfl, rfl, rfl, rfl⟩

theorem apply_window_memoryKept : MemoryKept s (Action.apply s (.window w rd v)) := fun _ => rfl

theorem apply_window_advanced : Advanced s (Action.apply s (.window w rd v)) := ⟨rfl, rfl⟩

end

/-- Settles O38: each of the two is the action `.window`, whose frame the lemmas above say. -/
theorem saveAndRestoreComplete : Obligations.SaveAndRestoreComplete := by
  intro rd ro1 o s sum moved
  have entering (w : BitVec 5) : moved (Action.apply s (.window w rd sum)) :=
    ⟨apply_window_wroteReg w rd sum s, apply_window_psr w rd sum s, rfl,
      apply_window_specialsKept w rd sum s, apply_window_memoryKept w rd sum s,
      apply_window_advanced w rd sum s⟩
  exact ⟨⟨_, exec_save rd ro1 o s, entering _, window_below_toNat s.psr.cwp⟩,
    ⟨_, exec_restore rd ro1 o s, entering _, window_above_toNat s.psr.cwp⟩⟩

/-! ## One after the other (R219) -/

/-- After two changes the cells kept are those that neither of them wrote. -/
theorem CellsKept.trans {w₁ w₂ : BitVec 5} {r₁ r₂ : Reg} {s t u : State} (first : CellsKept w₁ r₁ s t)
    (second : CellsKept w₂ r₂ t u) : CellsKeptBut w₁ r₁ w₂ r₂ s u := by
  obtain ⟨globals₁, windows₁⟩ := first
  obtain ⟨globals₂, windows₂⟩ := second
  exact ⟨fun k h₁ h₂ => (globals₂ k h₂).trans (globals₁ k h₁),
    fun k h₁ h₂ => (windows₂ k h₂).trans (windows₁ k h₁)⟩

/-- Entering window `w` and then the window left changes the two targets and the program counters alone. -/
theorem apply_window_and_back (w : BitVec 5) (rd rd' : Reg) (v v' : Word) (s : State) :
    let u := Action.apply (Action.apply s (.window w rd v)) (.window s.psr.cwp rd' v')
    CellsKeptBut w rd s.psr.cwp rd' s u ∧ u.psr = s.psr ∧ u.y = s.y ∧ SpecialsKept s u ∧ MemoryKept s u := by
  obtain ⟨-, first⟩ := apply_window_wroteReg w rd v s
  obtain ⟨-, second⟩ := apply_window_wroteReg s.psr.cwp rd' v' (Action.apply s (.window w rd v))
  exact ⟨first.trans second, rfl, rfl, ⟨rfl, rfl, rfl, rfl, rfl, rfl⟩, fun _ => rfl⟩

/-- Settles O39: the window above the one below is the window left. -/
theorem restoreAfterSave : Obligations.RestoreAfterSave := by
  intro rd ro1 rd' ro1' o o' s
  refine ⟨_, _, exec_save rd ro1 o s, exec_restore rd' ro1' o' _, ?_⟩
  rw [apply_window_psr, BitVec.sub_add_cancel]
  exact apply_window_and_back ..

/-- Settles O57: the window below the one above is the window left. -/
theorem saveAfterRestore : Obligations.SaveAfterRestore := by
  intro rd ro1 rd' ro1' o o' s
  refine ⟨_, _, exec_restore rd ro1 o s, exec_save rd' ro1' o' _, ?_⟩
  rw [apply_window_psr, BitVec.add_sub_cancel]
  exact apply_window_and_back ..

/-! ## The window checks (R218, R287) -/

section
variable {p : Params} {s : State}

theorem windowTrapped_eq_true_iff {w : BitVec 5} :
    windowTrapped p s w = true ↔ p.wimCheck = true ∧ s.wim.getLsbD w.toNat = true := Bool.and_eq_true_iff

theorem windowTrapped_eq_false_iff {w : BitVec 5} :
    windowTrapped p s w = false ↔ p.wimCheck = false ∨ s.wim.getLsbD w.toNat = false :=
  Bool.and_eq_false_iff

theorem privilegeViolated_eq_false (unprivileged : p.privCheck = false) : privilegeViolated p s = false := by
  rw [privilegeViolated, unprivileged, Bool.false_and]

variable (rd ro1 : Reg) (o : Operand2)

theorem saveWith_of_trapped (h : windowTrapped p s (s.psr.cwp - 1#5) = true) :
    saveWith p rd ro1 o s = .next (takeTrap .windowOverflow s) := if_pos h

theorem restoreWith_of_trapped (h : windowTrapped p s (s.psr.cwp + 1#5) = true) :
    restoreWith p rd ro1 o s = .next (takeTrap .windowUnderflow s) := if_pos h

/-- The window check of `rett` stands after that of the mode (R289). -/
theorem rettWith_of_trapped (unprivileged : p.privCheck = false)
    (h : windowTrapped p s (s.psr.cwp + 1#5) = true) :
    rettWith p ro1 o s = .next (takeTrap .windowUnderflow s) := by
  rw [rettWith, privilegeViolated_eq_false unprivileged, if_neg Bool.false_ne_true, if_pos h]
  rfl

theorem saveWith_of_not_trapped (h : windowTrapped p s (s.psr.cwp - 1#5) = false) :
    saveWith p rd ro1 o s = exec (.save rd ro1 o) s := if_neg (Bool.eq_false_iff.mp h)

theorem restoreWith_of_not_trapped (h : windowTrapped p s (s.psr.cwp + 1#5) = false) :
    restoreWith p rd ro1 o s = exec (.restore rd ro1 o) s := if_neg (Bool.eq_false_iff.mp h)

theorem rettWith_of_not_trapped (unprivileged : p.privCheck = false)
    (h : windowTrapped p s (s.psr.cwp + 1#5) = false) :
    rettWith p ro1 o s = exec (.rett ro1 o) s := by
  rw [rettWith, privilegeViolated_eq_false unprivileged, h]
  rfl

end

/-- Trap entry and error mode read nothing of WIM and keep it (R290, R293). -/
theorem takeTrap_withWim (e : Exc) (s : State) (w : Word) :
    takeTrap e { s with wim := w } = { takeTrap e s with wim := w } := by
  obtain ⟨het, ht⟩ | ⟨het, ht⟩ := takeTrap_cases e s
  · rw [ht]
    exact takeTrap_of_enabled (s := { s with wim := w }) het
  · rw [ht]
    exact takeTrap_of_disabled (s := { s with wim := w }) het

/-- Settles O54: both WIM bits are those `windowTrapped` reads, at the numbers of the windows entered. -/
theorem windowCheckParameter : Obligations.WindowCheckParameter := by
  refine ⟨rfl, rfl, fun p s rd ro1 o unprivileged => ?_, takeTrap_withWim⟩
  rw [← window_below_toNat, ← window_above_toNat]
  refine ⟨fun check bit => ?_, fun check bit => ?_, fun off => ?_, fun off => ?_⟩
  · exact saveWith_of_trapped rd ro1 o (windowTrapped_eq_true_iff.mpr ⟨check, bit⟩)
  · have trapped : windowTrapped p s (s.psr.cwp + 1#5) = true := windowTrapped_eq_true_iff.mpr ⟨check, bit⟩
    exact ⟨restoreWith_of_trapped rd ro1 o trapped, rettWith_of_trapped ro1 o unprivileged trapped⟩
  · exact saveWith_of_not_trapped rd ro1 o (windowTrapped_eq_false_iff.mpr off)
  · have passes : windowTrapped p s (s.psr.cwp + 1#5) = false := windowTrapped_eq_false_iff.mpr off
    exact ⟨restoreWith_of_not_trapped rd ro1 o passes, rettWith_of_not_trapped ro1 o unprivileged passes⟩

end Sys2Proof.Machine
end

section
/-! PROOFS. The trap instructions: trap entry where the condition holds with ET = 1, error mode with ET = 0,
the advance where it does not hold. -/

namespace Sys2Proof.Machine

/-! ## The sixteen rows are the sixteen `cond` values (R225, R228 to R243) -/

/-- The `cond` values in the order of the rows of `trapRows`. -/
def trapRowConds : List (BitVec 4) :=
  [0b0000#4, 0b1000#4, 0b0001#4, 0b1001#4, 0b0010#4, 0b1010#4, 0b0011#4, 0b1011#4,
   0b0100#4, 0b1100#4, 0b0101#4, 0b1101#4, 0b0110#4, 0b1110#4, 0b0111#4, 0b1111#4]

/-- What each row says of N, Z, V, C is what its `cond` value reads of them. -/
theorem trapRows_eq_map (ro1 : Reg) (o : Operand2) (f : Icc) :
    trapRows ro1 o f = trapRowConds.map fun cond => (trapOfCond cond ro1 o, condTaken cond f) := by
  simp [trapRows, trapRowConds, trapOfCond]

/-- The trap instruction of a `cond` value executes as `trapIf` at that value. -/
theorem exec_trapOfCond (cond : BitVec 4) (ro1 : Reg) (o : Operand2) (s : State) :
    exec (trapOfCond cond ro1 o) s = trapIf cond ro1 o s := by
  unfold trapOfCond
  split
  case h_16 =>
    obtain rfl : cond = 0b1111#4 := by decide +revert
    rfl
  all_goals rfl

theorem exists_cond_of_mem_trapRows {ro1 : Reg} {o : Operand2} {f : Icc} {row : Instr × Bool}
    (h : row ∈ trapRows ro1 o f) :
    ∃ cond, (∀ s, exec row.1 s = trapIf cond ro1 o s) ∧ condTaken cond f = row.2 := by
  rw [trapRows_eq_map] at h
  obtain ⟨cond, -, rfl⟩ := List.mem_map.mp h
  exact ⟨cond, exec_trapOfCond cond ro1 o, rfl⟩

/-! ## What `trapIf` does (R226, R227) -/

section
variable {cond : BitVec 4} {ro1 : Reg} {o : Operand2} {s : State}

theorem trapIf_of_taken (h : condTaken cond s.psr.icc = true) :
    trapIf cond ro1 o s = raise (.trapInstruction (trapNumber s ro1 o)) s := if_pos h

theorem trapIf_of_untaken (h : condTaken cond s.psr.icc = false) :
    trapIf cond ro1 o s = .next s.advance := if_neg (Bool.eq_false_iff.mp h)

end

/-- Bits 6:0 are the remainder by 128, and the trap type stands `0x80` above them (R226, R285). -/
theorem trapType_trapNumber (s : State) (ro1 : Reg) (o : Operand2) :
    trapType (.trapInstruction (trapNumber s ro1 o)) =
      0x80#8 + BitVec.ofNat 8 ((s.reg ro1 + s.operand2 o).toNat % 128) := by
  have number : (trapNumber s ro1 o).setWidth 8 =
      BitVec.ofNat 8 ((s.reg ro1 + s.operand2 o).toNat % 128) := by
    rw [← BitVec.ofNat_toNat, trapNumber, State.dir, BitVec.extractLsb'_toNat, Nat.shiftRight_zero]
  exact congrArg (0x80#8 + ·) number

/-- Settles O40: a taken trap instruction raises, and raising with ET = 1 is trap entry. -/
theorem takenTrapsEnter : Obligations.TakenTrapsEnter := by
  intro ro1 o s enabled row hrow holds
  obtain ⟨cond, isTrapIf, taken⟩ := exists_cond_of_mem_trapRows hrow
  rw [isTrapIf, trapIf_of_taken (taken.trans holds), ← trapType_trapNumber]
  exact (raise_effect _ s).1 enabled

/-- Settles O41: an untaken trap instruction is the advance, and a taken one raises, which with ET = 0 is
error mode. -/
theorem otherTrapInstructions : Obligations.OtherTrapInstructions := by
  intro ro1 o s row hrow
  obtain ⟨cond, isTrapIf, taken⟩ := exists_cond_of_mem_trapRows hrow
  rw [isTrapIf]
  refine ⟨fun fails => ⟨_, trapIf_of_untaken (taken.trans fails), advance_onlyMovesPc s⟩,
    fun holds disabled => ?_⟩
  rw [trapIf_of_taken (taken.trans holds)]
  exact (raise_effect _ s).2 disabled

end Sys2Proof.Machine
end

section
/-! PROOFS. The words the spec writes out: the encoder writes each of them, so the decoder reads it back. -/

namespace Sys2Proof

/-- Round trip (O2), stated of the word: what the encoder writes for `i` decodes to `i`. -/
theorem decode_of_encode {w : Word} {i : Instr} (wf : WellFormed i = true) (written : encode i = w) :
    decode w = .ok i :=
  written ▸ decodeAfterEncode i wf

/-- Settles O1: each of the fourteen words is what the encoder writes for its instruction. -/
theorem writtenWordsDecode : Obligations.WrittenWordsDecode := by
  refine ⟨?nop, ?sethi, ?ld, ?st, ?add, ?srl, ?be, ?jmp, ?rett, ?call, ?save, ?ta, ?rdPsr, ?wrLimite⟩
  all_goals exact decode_of_encode (by decide) (by decide)

end Sys2Proof
end

section
/-! PROOFS. The reads and writes of the state registers: value, frame, and the check of the mode. -/

namespace Sys2Proof.Machine

/-! ## The packed images as numbers (R23, R26) -/

/-- Bits put above others count for the power of two of the width below them. -/
theorem append_toNat_eq_add {m n : Nat} (hi : BitVec m) (lo : BitVec n) :
    (hi ++ lo).toNat = hi.toNat * 2 ^ n + lo.toNat := by
  rw [BitVec.toNat_append, ← Nat.shiftLeft_add_eq_or_of_lt lo.isLt, Nat.shiftLeft_eq]

theorem psrImage_toNat (p : Psr) : (psrImage p).toNat =
    p.icc.n.toNat * 2 ^ 23 + p.icc.z.toNat * 2 ^ 22 + p.icc.v.toNat * 2 ^ 21 + p.icc.c.toNat * 2 ^ 20
      + p.s.toNat * 2 ^ 7 + p.ps.toNat * 2 ^ 6 + p.et.toNat * 2 ^ 5 + p.cwp.toNat := by
  simp only [psrImage, append_toNat_eq_add, BitVec.toNat_ofBool, BitVec.toNat_ofNat, Nat.zero_mod]
  omega

theorem tbrImage_toNat (t : Tbr) : (tbrImage t).toNat = t.tba.toNat * 2 ^ 12 + t.tt.toNat * 2 ^ 4 := by
  simp only [tbrImage, append_toNat_eq_add, BitVec.toNat_ofNat, Nat.zero_mod]
  omega

/-! ## The instructions at the spec's settings (R253, R261) -/

theorem exec_rdOf (r : StateReg) (rd : Reg) (s : State) :
    exec (rdOf r rd) s = .next (s.setReg rd (s.readStateReg r)).advance := by
  cases r <;> rfl

theorem exec_wrOf (r : StateReg) (ro1 : Reg) (o : Operand2) (s : State) :
    exec (wrOf r ro1 o) s = .next (s.writeStateReg r (s.wrValue ro1 o)).advance := by
  cases r <;> rfl

theorem rdOf_completes (r : StateReg) (rd : Reg) (s : State) :
    ∃ t, exec (rdOf r rd) s = .next t ∧ OnlyWrites rd (s.readStateReg r) s t :=
  ⟨_, exec_rdOf r rd s, setReg_advance_onlyWrites rd _ s⟩

/-- Settles O45: a read writes to `rd` what `readStateReg` gives, which for `%psr` and `%tbr` is the
image. -/
theorem stateRegisterReads : Obligations.StateRegisterReads := by
  intro rd s
  have image (r : StateReg) {P : Word → Prop} (value : P (s.readStateReg r)) :
      ∃ t v, exec (rdOf r rd) s = .next t ∧ OnlyWrites rd v s t ∧ P v :=
    ⟨_, _, exec_rdOf r rd s, setReg_advance_onlyWrites rd _ s, value⟩
  exact ⟨rdOf_completes .y rd s, image .psr (psrImage_toNat s.psr), rdOf_completes .wim rd s,
    image .tbr (tbrImage_toNat s.tbr), rdOf_completes .base rd s, rdOf_completes .limite rd s⟩

/-- A write of a whole register, unlike one of `%psr` or `%tbr`, keeps both of these; every write keeps the
cells and memory, and advances. -/
theorem writeStateReg_advance_keeps (r : StateReg) (v : Word) (s : State) (psr : r ≠ .psr)
    (tbr : r ≠ .tbr) :
    let t := (s.writeStateReg r v).advance
    AllCellsKept s t ∧ t.psr = s.psr ∧ t.tbr = s.tbr ∧ t.annul = s.annul ∧ t.errorMode = s.errorMode ∧
    MemoryKept s t ∧ Advanced s t := by
  cases r with
  | psr => exact absurd rfl psr
  | tbr => exact absurd rfl tbr
  | _ => exact ⟨⟨rfl, rfl⟩, rfl, rfl, rfl, rfl, fun _ => rfl, rfl, rfl⟩

/-- Settles O46: of Y, WIM, BASE and LIMITE a write changes the one it names. -/
theorem wholeRegisterWrites : Obligations.WholeRegisterWrites := by
  intro ro1 o s v kept
  have keeps {r : StateReg} (psr : r ≠ .psr) (tbr : r ≠ .tbr) : kept (s.writeStateReg r v).advance :=
    writeStateReg_advance_keeps r v s psr tbr
  refine ⟨?y, ?wim, ?base, ?limite⟩
  case y => exact ⟨_, exec_wrOf .y ro1 o s, keeps nofun nofun, rfl, rfl, rfl, rfl⟩
  case wim => exact ⟨_, exec_wrOf .wim ro1 o s, keeps nofun nofun, rfl, rfl, rfl, rfl⟩
  case base => exact ⟨_, exec_wrOf .base ro1 o s, keeps nofun nofun, rfl, rfl, rfl, rfl⟩
  case limite => exact ⟨_, exec_wrOf .limite ro1 o s, keeps nofun nofun, rfl, rfl, rfl, rfl⟩

/-! ## The check of the mode (R270, R286, R289) -/

section
variable {p : Params} {s : State}

theorem privilegeViolated_of_user (check : p.privCheck = true) (user : s.psr.s = false) :
    privilegeViolated p s = true := by
  rw [privilegeViolated, check, user]
  rfl

theorem privilegeViolated_eq_false_iff :
    privilegeViolated p s = false ↔ p.privCheck = false ∨ s.psr.s = true := by
  rw [privilegeViolated, Bool.and_eq_false_iff, Bool.not_eq_false']

/-- `PRIV_CHECK` reserves every state register but `%y` (R270). -/
theorem isReserved_of_ne_y {r : StateReg} (h : r ≠ .y) : r.isReserved = true := by
  cases r with
  | y => exact absurd rfl h
  | _ => rfl

variable (rd ro1 : Reg) (o : Operand2)

theorem rettWith_of_violated (h : privilegeViolated p s = true) :
    rettWith p ro1 o s = .next (takeTrap .privilegedInstruction s) := if_pos h

/-- Where the mode passes, `rett` goes on to the checks that stand after it. -/
theorem rettWith_of_permitted (h : privilegeViolated p s = false) :
    rettWith p ro1 o s = rettWith { p with privCheck := false } ro1 o s := by
  rw [rettWith, h, rettWith, privilegeViolated_eq_false rfl]
  rfl

variable {r : StateReg}

theorem rdWith_of_violated (h : (r.isReserved && privilegeViolated p s) = true) :
    rdWith p r rd s = .next (takeTrap .privilegedInstruction s) := if_pos h

theorem wrWith_of_violated (h : (r.isReserved && privilegeViolated p s) = true) :
    wrWith p r ro1 o s = .next (takeTrap .privilegedInstruction s) := if_pos h

theorem rdWith_of_permitted (h : (r.isReserved && privilegeViolated p s) = false) :
    rdWith p r rd s = exec (rdOf r rd) s :=
  (if_neg (Bool.eq_false_iff.mp h)).trans (exec_rdOf r rd s).symm

theorem wrWith_of_permitted (h : (r.isReserved && privilegeViolated p s) = false) :
    wrWith p r ro1 o s = exec (wrOf r ro1 o) s :=
  (if_neg (Bool.eq_false_iff.mp h)).trans (exec_wrOf r ro1 o s).symm

end

/-- Settles O55: each of the three operations looks at the mode first, `rett` always and the accesses where
the register is reserved. -/
theorem privilegeCheckParameter : Obligations.PrivilegeCheckParameter := by
  refine ⟨rfl, fun p s r rd ro1 o => ⟨fun check user => ?_, fun passes => ?_, fun passes => ?_⟩⟩
  · have violated : privilegeViolated p s = true := privilegeViolated_of_user check user
    refine ⟨rettWith_of_violated ro1 o violated, fun notY => ?_⟩
    have reserved : (r.isReserved && privilegeViolated p s) = true :=
      Bool.and_eq_true_iff.mpr ⟨isReserved_of_ne_y notY, violated⟩
    exact ⟨rdWith_of_violated rd reserved, wrWith_of_violated ro1 o reserved⟩
  · exact rettWith_of_permitted ro1 o (privilegeViolated_eq_false_iff.mpr passes)
  · have permitted : (r.isReserved && privilegeViolated p s) = false := by
      rw [Bool.and_eq_false_iff, privilegeViolated_eq_false_iff]
      obtain off | supervisor | rfl := passes
      · exact .inr (.inl off)
      · exact .inr (.inr supervisor)
      · exact .inl rfl
    exact ⟨rdWith_of_permitted rd permitted, wrWith_of_permitted ro1 o permitted⟩

end Sys2Proof.Machine
end

section
/-! PROOFS. Taking an exception: trap entry with ET = 1, error mode with ET = 0; which step enters error
mode, and that none leaves it. -/

namespace Sys2Proof.Machine

/-! ## With ET = 1 (R281, R285, R290) -/

theorem takeTrap_trapEntered (e : Exc) {s : State} (enabled : s.psr.et = true) :
    TrapEntered (trapType e) s (takeTrap e s) := by
  rw [takeTrap_of_enabled enabled]
  exact trapEntry_trapEntered _ s

/-- The trap type of a trap instruction is its number with bit 7 set (R285). -/
theorem trapType_trapInstruction (n : BitVec 7) : trapType (.trapInstruction n) = 0b1#1 ++ n := by
  apply BitVec.eq_of_toNat_eq
  have := n.isLt
  rw [append_toNat_eq_add, trapType, BitVec.toNat_add, BitVec.toNat_setWidth_of_le (by decide)]
  simp only [BitVec.toNat_ofNat]
  omega

/-- Settles O42: each row of the table is the exception with its `trapType`. -/
theorem exceptionEntersTrap : Obligations.ExceptionEntersTrap := by
  intro s enabled row mem
  have listed : trapType row.1 = row.2 := by
    revert row
    decide
  refine ⟨?_, fun dir => takeTrap_trapEntered (.memAddressNotAligned dir) enabled, fun n => ?_⟩
  · rw [← listed]
    exact takeTrap_trapEntered row.1 enabled
  · rw [← trapType_trapInstruction]
    exact takeTrap_trapEntered (.trapInstruction n) enabled

/-! ## With ET = 0 (R293) -/

/-- Settles O43: `ta` is always taken, so it raises whatever the flags are. -/
theorem exceptionEntersErrorMode : Obligations.ExceptionEntersErrorMode := by
  refine ⟨fun e s disabled => takeTrap_of_disabled disabled, fun ro1 o s disabled => ?_⟩
  have taken : condTaken 0b1000#4 s.psr.icc = true := rfl
  calc exec (.ta ro1 o) s
      = trapIf 0b1000#4 ro1 o s := exec_trapOfCond 0b1000#4 ro1 o s
    _ = raise (.trapInstruction (trapNumber s ro1 o)) s := trapIf_of_taken taken
    _ = .next { s with errorMode := true } := (raise_effect _ s).2 disabled

/-- Outside error mode an exception leads there only from ET = 0 (R280). -/
theorem disabled_of_takeTrap_errorMode {e : Exc} {s : State} (running : s.errorMode = false)
    (stopped : (takeTrap e s).errorMode = true) : s.psr.et = false := by
  obtain ⟨-, entered⟩ | ⟨disabled, -⟩ := takeTrap_cases e s
  · rw [entered, trapEntry_errorMode, running] at stopped
    exact absurd stopped Bool.false_ne_true
  · exact disabled

/-- Settles O53: an annulled slot and a completed instruction keep `error_mode`, so the step took an
exception. -/
theorem errorModeNeedsTrapsDisabled : Obligations.ErrorModeNeedsTrapsDisabled := by
  intro s t hstep stopped
  have running : s.errorMode = false := (step_cases hstep).1
  obtain rfl | ⟨-, -, e, rfl⟩ | ⟨i, a, -, -, rfl⟩ := step_next_cases hstep
  · rw [annulledStep_errorMode, running] at stopped
    exact absurd stopped Bool.false_ne_true
  · have disabled : s.psr.et = false := disabled_of_takeTrap_errorMode running stopped
    exact ⟨disabled, takeTrap_of_disabled disabled⟩
  · rw [apply_errorMode, running] at stopped
    exact absurd stopped Bool.false_ne_true

/-- Settles O8: `step` looks at `error_mode` before anything else. -/
theorem errorModeIsTerminal : Obligations.ErrorModeIsTerminal := fun _ stopped => if_pos stopped

end Sys2Proof.Machine
end

section
/-! PROOFS. The end of a run (R329): error mode before every convention; a run stops at the first state its
convention holds in; a run of a number of steps. -/

namespace Sys2Proof.Machine

/-! ## One more step of `runUntil` -/

section
variable {h : Halt} {fuel k : Nat} {s t : State}

theorem runUntil_of_ended {e : RunEnd} (ended : h.ended k s = some e) : runUntil h fuel k s = e := by
  cases fuel <;> simp only [runUntil, ended, Option.getD_some]

theorem runUntil_of_next (goesOn : h.ended k s = none) (hstep : step s = .next t) :
    runUntil h (fuel + 1) k s = runUntil h fuel (k + 1) t := by
  simp only [runUntil, goesOn, hstep]

theorem runUntil_of_fault {e : Fault} (goesOn : h.ended k s = none) (hstep : step s = .fault e) :
    runUntil h (fuel + 1) k s = .faulted e := by
  simp only [runUntil, goesOn, hstep]

theorem runUntil_of_refused {e : Refusal} (goesOn : h.ended k s = none) (hstep : step s = .refused e) :
    runUntil h (fuel + 1) k s = .refused e := by
  simp only [runUntil, goesOn, hstep]

/-- Error mode ends a run, whatever the convention and the steps left (R294). -/
theorem runUntil_of_errorMode (stopped : s.errorMode = true) :
    runUntil h fuel k s = .faulted .errorMode :=
  runUntil_of_ended (if_pos stopped)

/-- A state outside error mode ends a run, as stopped, where the convention holds in it. -/
theorem ended_of_running (running : s.errorMode = false) :
    h.ended k s = if h.reached k s then some (.stopped s (h.request s)) else none :=
  if_neg (Bool.eq_false_iff.mp running)

end

/-! ## Where a run stops -/

/-- `t` is what `j` steps from `s` lead to, and the first state of that run in which the convention `h`
holds, `k` steps having been made before. -/
structure FirstReached (h : Halt) (k j : Nat) (s t : State) : Prop where
  run : Host.Core.run Sys2Proof.core j s = .next t
  running : t.errorMode = false
  reached : h.reached (k + j) t = true
  first : ∀ i < j, ∃ u : State, Host.Core.run Sys2Proof.core i s = .next u ∧ h.reached (k + i) u = false

theorem FirstReached.here {h : Halt} {k : Nat} {s : State} (running : s.errorMode = false)
    (reached : h.reached k s = true) : FirstReached h k 0 s s :=
  ⟨rfl, running, reached, nofun⟩

/-- A run stops where the run from the next state stops, if the convention does not hold already. -/
theorem FirstReached.of_next {h : Halt} {k j : Nat} {s u t : State} (rest : FirstReached h (k + 1) j u t)
    (hstep : step s = .next u) (unreached : h.reached k s = false) : FirstReached h k (j + 1) s t where
  run := (core_run_of_next hstep).trans rest.run
  running := rest.running
  reached := by rw [← rest.reached, Nat.add_right_comm, Nat.add_assoc]
  first
    | 0, _ => ⟨s, rfl, unreached⟩
    | i + 1, hi => by
      obtain ⟨v, run, unreached⟩ := rest.first i (Nat.lt_of_succ_lt_succ hi)
      exact ⟨v, (core_run_of_next hstep).trans run, by rw [← unreached, Nat.add_right_comm, Nat.add_assoc]⟩

/-- A run that stops does so where it is, if the convention holds there, or goes on by a step. -/
theorem stopped_cases {h : Halt} {fuel k : Nat} {s t : State} {request : Option StopRequest}
    (stops : runUntil h fuel k s = .stopped t request) :
    (s.errorMode = false ∧ h.reached k s = true ∧ t = s ∧ request = h.request s) ∨
    (h.reached k s = false ∧ ∃ fuel' u, fuel = fuel' + 1 ∧ step s = .next u ∧
      runUntil h fuel' (k + 1) u = .stopped t request) := by
  obtain ⟨-, ended⟩ | ⟨running, reached, ended⟩ | ⟨-, unreached, ended⟩ := ended_cases h k s
  · rw [runUntil_of_ended ended] at stops
    cases stops
  · rw [runUntil_of_ended ended] at stops
    cases stops
    exact .inl ⟨running, reached, rfl, rfl⟩
  · refine .inr ⟨unreached, ?_⟩
    cases fuel with
    | zero => simp [runUntil, ended] at stops
    | succ fuel =>
      cases hstep : step s with
      | next u => exact ⟨fuel, u, rfl, rfl, runUntil_of_next ended hstep ▸ stops⟩
      | fault e => rw [runUntil_of_fault ended hstep] at stops; cases stops
      | refused e => rw [runUntil_of_refused ended hstep] at stops; cases stops

/-- A run that stops does so at the first state its convention holds in, with what that state asks for. -/
theorem firstReached_of_stopped {h : Halt} {fuel k : Nat} {s t : State} {request : Option StopRequest}
    (stops : runUntil h fuel k s = .stopped t request) :
    request = h.request t ∧ ∃ j ≤ fuel, FirstReached h k j s t := by
  induction fuel generalizing k s with
  | zero =>
    obtain ⟨running, reached, rfl, rfl⟩ | ⟨-, _, _, hfuel, -⟩ := stopped_cases stops
    · exact ⟨rfl, 0, Nat.le_refl 0, .here running reached⟩
    · cases hfuel
  | succ fuel ih =>
    obtain ⟨running, reached, rfl, rfl⟩ | ⟨unreached, _, u, hfuel, hstep, stops⟩ := stopped_cases stops
    · exact ⟨rfl, 0, Nat.zero_le _, .here running reached⟩
    · cases hfuel
      obtain ⟨asked, j, hj, rest⟩ := ih stops
      exact ⟨asked, j + 1, Nat.succ_le_succ hj, rest.of_next hstep unreached⟩

/-! ## What each convention says of the state -/

theorem atSelfBranch_iff {s : State} : atSelfBranch s = true ↔
    s.annul = false ∧ memRead32 .big s.mem s.pc = 0x10BFFFFF#32 ∧
    memRead32 .big s.mem (s.pc + 4#32) = 0x01000000#32 := by
  simp only [atSelfBranch, Bool.and_eq_true, Bool.not_eq_true', beq_iff_eq, settings_byteOrder, and_assoc]

/-- Bits 6:0 are the remainder by 128 (R226). -/
theorem trapNumber_eq (s : State) (ro1 : Reg) (o : Operand2) :
    trapNumber s ro1 o = BitVec.ofNat 7 ((s.reg ro1 + s.operand2 o).toNat % 128) := by
  apply BitVec.eq_of_toNat_eq
  rw [trapNumber, State.dir, BitVec.extractLsb'_toNat, BitVec.toNat_ofNat, Nat.mod_mod]
  rfl

/-- A state with a request is about to execute the `ta` that makes it. -/
theorem executes_ta_of_stopRequest {s : State} (running : s.errorMode = false)
    (asks : (stopRequest s).isSome = true) : ∃ ro1 o, Executes s (.ta ro1 o) ∧
      stopRequest s = some { number := trapNumber s ro1 o, o0 := s.reg 8#5 } := by
  unfold stopRequest at asks ⊢
  split at asks
  · cases asks
  · rename_i plain
    split at asks
    · rename_i ro1 o fetched
      refine ⟨ro1, o, ⟨running, Bool.eq_false_of_not_eq_true plain, fetched⟩, if_neg plain⟩
    · cases asks

/-! ## A run of a number of steps -/

/-- How a run of a number of steps ends, by the outcome of the steps. -/
def endOfSteps : Result → RunEnd
  | .next t => if t.errorMode then .faulted .errorMode else .stopped t none
  | .fault e => .faulted e
  | .refused e => .refused e

/-- Under (a) a run takes all its steps unless one of them stops it, and then looks for error mode. -/
theorem runUntil_afterSteps (k n : Nat) (s : State) :
    runUntil (.afterSteps (k + n)) n k s = endOfSteps (Host.Core.run Sys2Proof.core n s) := by
  induction n generalizing k s with
  | zero =>
    change _ = endOfSteps (.next s)
    cases mode : s.errorMode with
    | true => rw [runUntil_of_errorMode mode, endOfSteps, if_pos mode]
    | false =>
      have reached : (Halt.afterSteps (k + 0)).reached k s = true := beq_self_eq_true k
      have ended := (ended_of_running mode).trans (if_pos reached)
      rw [runUntil_of_ended ended, endOfSteps, if_neg (Bool.eq_false_iff.mp mode)]
      rfl
  | succ n ih =>
    cases mode : s.errorMode with
    | true =>
      rw [runUntil_of_errorMode mode, core_run_of_fault (errorModeIsTerminal s mode)]
      rfl
    | false =>
      have unreached : (Halt.afterSteps (k + (n + 1))).reached k s = false :=
        beq_eq_false_iff_ne.mpr (by omega)
      have goesOn : (Halt.afterSteps (k + (n + 1))).ended k s = none := by
        rw [ended_of_running mode, unreached]
        rfl
      cases hstep : step s with
      | next u =>
        rw [runUntil_of_next goesOn hstep, core_run_of_next hstep, ← ih (k + 1) u, Nat.add_right_comm]
        rfl
      | fault e =>
        rw [runUntil_of_fault goesOn hstep, core_run_of_fault hstep]
        rfl
      | refused e =>
        rw [runUntil_of_refused goesOn hstep, core_run_of_refused hstep]
        rfl

/-- Settles O58: the run stops where its convention is first reached, and each convention is read off
`Halt.reached` and `Halt.request` there. -/
theorem runsEnd : Obligations.RunsEnd := by
  intro h fuel k n s t request
  refine ⟨runUntil_of_errorMode, fun stops => ?_, fun run => ?_, fun e run => ?_⟩
  · obtain ⟨rfl, j, hj, run, running, reached, first⟩ := firstReached_of_stopped stops
    refine ⟨running, j, hj, run, first, ?_⟩
    cases h with
    | afterSteps m => exact ⟨beq_iff_eq.mp reached, rfl⟩
    | atPc a => exact ⟨beq_iff_eq.mp reached, rfl⟩
    | selfBranch =>
      obtain ⟨plain, branch, slot⟩ := atSelfBranch_iff.mp reached
      exact ⟨plain, branch, slot, rfl⟩
    | takenTa =>
      obtain ⟨ro1, o, executes, asks⟩ := executes_ta_of_stopRequest running reached
      exact ⟨ro1, o, executes, trapNumber_eq t ro1 o ▸ asks⟩
  · have ends := runUntil_afterSteps 0 n s
    rwa [Nat.zero_add, run] at ends
  · have ends := runUntil_afterSteps 0 n s
    rwa [Nat.zero_add, run] at ends

end Sys2Proof.Machine
end
